-- ==== Sys2Proof/Word.lean ====
section
/-!
DEFINITION. The widths of the values the block handles (00_scope.md R8, 30_encoding.md R61). Every value is unsigned (R9).
-/
namespace Sys2Proof

/-- A RegisterAddress, a PortValue, a display character: 8 bits (R8). -/
abbrev Byte := BitVec 8

/-- "a 4-bit half of a byte" (R8, R12). -/
abbrev Nibble := BitVec 4

/-- A request word: 24 bits, bit 23 the most significant (R61). -/
abbrev ReqWord := BitVec 24

/-- An expander's bus address: 7 bits (R40). -/
abbrev BusAddr := BitVec 7

/-- A display-memory (DDRAM) address: 7 bits (R8). -/
abbrev DdramAddr := BitVec 7

end Sys2Proof
end

