-- ==== Sys2Proof/Config.lean ====
section
/-!
DEFINITION. The implementation parameters of 00_scope.md R7 and the free values of the model. The checks on the
parameters, the reference values and the installed parameters stand in Machine/Params.lean.
-/
namespace Sys2Proof

/-- The named parameters of R7, one field each. The model takes them as an argument: a state carries them in `State.cfg`,
no step changes them, and a statement about every state is a statement about every configuration (D4, D5). -/
structure Config where
  /-- `EN_MASK`: the enable bit of the LCD device's port B (R66); OPEN. -/
  enMask : Byte
  /-- `LCD_DEV`; OPEN. -/
  lcdDev : BusAddr
  /-- `PANEL_DEV`; OPEN. -/
  panelDev : BusAddr
  /-- `REG_DIR_A`; OPEN. -/
  regDirA : Byte
  /-- `REG_DIR_B`; OPEN. -/
  regDirB : Byte
  /-- `REG_POL_A`; OPEN. -/
  regPolA : Byte
  /-- `REG_PUP_A`; OPEN. -/
  regPupA : Byte
  /-- `REG_DATA_A`; OPEN. -/
  regDataA : Byte
  /-- `REG_DATA_B`; OPEN. -/
  regDataB : Byte
  /-- `V_DIR_IN`; OPEN. -/
  vDirIn : Byte
  /-- `V_DIR_OUT`; OPEN. -/
  vDirOut : Byte
  /-- `V_POL_INV`; OPEN. -/
  vPolInv : Byte
  /-- `V_PUP_ON`; OPEN. -/
  vPupOn : Byte
  /-- `T_POWERON_MS`. -/
  tPoweronMs : Nat
  /-- `T_CHAR_MS`. -/
  tCharMs : Nat
  /-- `T_CLEAR_MS`. -/
  tClearMs : Nat
  /-- `T_HOME_MS`. -/
  tHomeMs : Nat
  /-- `PRINT_EXTRA_MS`. -/
  printExtraMs : Nat
  /-- `INIT_FINAL_HOME`. -/
  initFinalHome : Bool
  /-- `READ_REPEATED_START`; OPEN, read by the wire framing of R44 alone. -/
  readRepeatedStart : Bool
  deriving DecidableEq, Repr, Inhabited

/-- FREE VALUE: the parameters of the actual board, which no source gives (R7, "OPEN"; notes/assumptions/1.md). -/
opaque Config.board : Config

/-- FREE VALUE: the transport outcome of the `n`-th transaction the bus answers without a script: `draw_write_outcome`,
and the `ok` of `draw_read_outcome` (R95; notes/assumptions/2.md). -/
opaque Config.busOk : Nat → Bool

/-- FREE VALUE: the byte the `n`-th unscripted transaction returns if it is a successful read (R94, R95;
notes/assumptions/2.md). -/
opaque Config.busByte : Nat → Byte

end Sys2Proof
end

