-- ==== Sys2Proof/Syntax.lean ====
section
/-!
DEFINITION. The instructions: one constructor per row of spec/opcode_table.json (13 host requests of 30_encoding.md R62 and
the 10 rows of the codes the block sends to the display, R66 and R70), and the request words that carry them (R60, R61).
-/
namespace Sys2Proof

/-- The two expander devices (R3, R40), named by the DEV bit of R61: 0 = PANEL, 1 = LCD. -/
inductive Device where
  | panel
  | lcd
  deriving DecidableEq, Repr, Inhabited

/-- The command/data selector of a transfer (R66): instruction (0x00) or character data (0x80). -/
inductive Selector where
  | instr
  | data
  deriving DecidableEq, Repr, Inhabited

/-- One constructor per row of spec/opcode_table.json. -/
inductive Instr where
  /-- BUS_WRITE (R90). -/
  | busWrite (dev : Device) (reg value : Byte)
  /-- BUS_READ (R93). -/
  | busRead (dev : Device) (reg : Byte)
  /-- EXP_CONFIG (R100). -/
  | expConfig (dev : Device)
  /-- LCD_NIBBLE (R112). -/
  | lcdNibble (sel : Selector) (n : Nibble)
  /-- LCD_INSTR_NIBBLE (R114). -/
  | lcdInstrNibble (n : Nibble)
  /-- LCD_INSTR_BYTE (R116). -/
  | lcdInstrByte (b : Byte)
  /-- LCD_CHAR (R120). -/
  | lcdChar (c : Byte)
  /-- LCD_INIT (R124). -/
  | lcdInit
  /-- LCD_CLEAR_HOME (R130). -/
  | lcdClearHome
  /-- LCD_SET_LINE (R134). -/
  | lcdSetLine (line : Byte)
  /-- LCD_PRINT (R140): the payload; its length is the N field of the word. -/
  | lcdPrint (text : List Byte)
  /-- PANEL_READ_BUTTONS (R151). -/
  | panelReadButtons
  /-- PANEL_WRITE_LIGHTS (R153). -/
  | panelWriteLights (v : Byte)
  /-- INIT_8BIT (R70): the instruction nibble 0x3. -/
  | init8bit
  /-- SET_4BIT (R70): the instruction nibble 0x2. -/
  | set4bit
  /-- FUNCTION_SET (R70): the instruction byte 0x28. -/
  | functionSet
  /-- DISPLAY_ON_CURSOR_OFF (R70): the instruction byte 0x0C. -/
  | displayOnCursorOff
  /-- ENTRY_MODE_INC (R70): the instruction byte 0x06. -/
  | entryModeInc
  /-- CLEAR_DISPLAY (R70): the instruction byte 0x01. -/
  | clearDisplay
  /-- RETURN_HOME (R70): the instruction byte 0x02. -/
  | returnHome
  /-- SET_DDRAM_ADDR (R70, R71): the instruction byte 0x80 OR addr. -/
  | setDdramAddr (addr : DdramAddr)
  /-- WRITE_DATA (R120): a character byte sent with the data selector. -/
  | writeData (c : Byte)
  /-- PORTB_BYTE (R66): one port-B byte, given by its selector, its nibble and its enable bit. -/
  | portbByte (sel : Selector) (n : Nibble) (en : Bool)
  deriving DecidableEq, Repr

/-- The fields of the one request format REQ (R61). -/
structure ReqFields where
  /-- `OP`, bits 23:20. -/
  op : BitVec 4
  /-- `DEV`, bit 19. -/
  dev : Bool
  /-- `RSV`, bits 18:16. -/
  rsv : BitVec 3
  /-- `A`, bits 15:8. -/
  a : Byte
  /-- `B`, bits 7:0. -/
  b : Byte
  deriving DecidableEq, Repr

/-- What the host submits: a request word and, for LCD_PRINT alone, its payload bytes (R60, R73). -/
structure Request where
  word : ReqWord
  payload : List Byte
  deriving DecidableEq, Repr

/-- An encoded unit in one of the five formats of spec/opcode_table.json's "format" column. -/
inductive Code where
  /-- format REQ: a host request (R61). -/
  | req (r : Request)
  /-- format lcd_nibble: a lone instruction nibble (R70). -/
  | lcdNibble (n : Nibble)
  /-- format lcd_instr: a display-controller instruction byte (R70). -/
  | lcdInstr (b : Byte)
  /-- format lcd_data: a character byte (R120). -/
  | lcdData (b : Byte)
  /-- format portb: a byte written to the LCD device's port B (R66). -/
  | portb (b : Byte)
  deriving DecidableEq, Repr

/-- Why a code is no instruction. The first five make a request word illegal (R75); a request whose payload has not the length
of R73 is never formed by the host link, and the last two concern the display codes, which the block only sends. -/
inductive DecodeError where
  /-- OP is 0x0, 0xE or 0xF. -/
  | reservedOpcode
  /-- RSV is not 000. -/
  | reservedBits
  /-- DEV is 1 for an opcode that requires DEV = 0. -/
  | deviceBit
  /-- A must-be-zero bit of A or B is 1. -/
  | operandBits
  /-- The selector of LCD_NIBBLE is neither 0x00 nor 0x80. -/
  | selector
  /-- The payload is not of the length the word tells (R73). -/
  | payloadLength
  /-- The nibble or byte is none of the display codes of R70. -/
  | notADisplayCode
  /-- The byte is no port-B byte of the LcdDriver (R66). -/
  | notAPortByte
  deriving DecidableEq, Repr

/-- What decoding answers: an instruction, or the reason there is none. -/
inductive Decoded where
  | ok (i : Instr)
  | illegal (why : DecodeError)
  deriving DecidableEq, Repr

/-- The pseudo-instructions of R74. -/
inductive Pseudo where
  /-- `BOOT` (R195). -/
  | boot
  /-- `LCD_LINE l, "text"`. -/
  | lcdLine (line : Byte) (text : List Byte)
  deriving DecidableEq, Repr

end Sys2Proof
end

