-- ==== Sys2Proof/WellFormed.lean ====
section
/-!
DEFINITION. Which instructions an encoding exists for. Every operand but one has the width of its field (R61, R63), so the one
check is the payload length of LCD_PRINT.
-/
namespace Sys2Proof

/-- An instruction some code stands for: an LCD_PRINT payload has 0 to 255 bytes (R73, R141). -/
def WellFormed : Instr → Bool
  | .lcdPrint text => decide (text.length ≤ 255)
  | .busWrite _ _ _ => true
  | .busRead _ _ => true
  | .expConfig _ => true
  | .lcdNibble _ _ => true
  | .lcdInstrNibble _ => true
  | .lcdInstrByte _ => true
  | .lcdChar _ => true
  | .lcdInit => true
  | .lcdClearHome => true
  | .lcdSetLine _ => true
  | .panelReadButtons => true
  | .panelWriteLights _ => true
  | .init8bit => true
  | .set4bit => true
  | .functionSet => true
  | .displayOnCursorOff => true
  | .entryModeInc => true
  | .clearDisplay => true
  | .returnHome => true
  | .setDdramAddr _ => true
  | .writeData _ => true
  | .portbByte _ _ _ => true

end Sys2Proof
end

