-- ==== Sys2Proof/Decode.lean ====
section
/-!
DEFINITION. The encodings of 30_encoding.md: the request word (R61 to R63, R73, R75), the nibble remap and the port-B byte
(R64 to R66), the display-controller codes (R70 to R72), the serial host link (R73); the decoder, total and rejecting by
name, and after it the encoder.
-/
namespace Sys2Proof

/-! ### The request word (R61) -/

/-- The fields of a request word (R61). -/
def unpackWord (w : ReqWord) : ReqFields :=
  { op := w.extractLsb' 20 4, dev := w.getLsbD 19, rsv := w.extractLsb' 16 3, a := w.extractLsb' 8 8, b := w.extractLsb' 0 8 }

/-- The request word with the given fields (R61). -/
def packWord (f : ReqFields) : ReqWord :=
  f.op ++ BitVec.ofBool f.dev ++ f.rsv ++ f.a ++ f.b

/-- `dev(DEV)` (R61): PANEL when DEV = 0, LCD when DEV = 1. -/
def deviceOfBit (b : Bool) : Device := if b then .lcd else .panel

/-- The DEV bit that names a device (R61). -/
def Device.bit : Device → Bool
  | .panel => false
  | .lcd => true

/-- The payload length the word tells from its OP field alone: N = A when OP = 0xB, else 0 (R73). -/
def payloadLength (w : ReqWord) : Nat :=
  if (unpackWord w).op = 0xB#4 then (unpackWord w).a.toNat else 0

/-! ### Nibbles, the remap and the port-B byte (R64 to R66, R72) -/

/-- `x[7:4]` (R72). -/
def hiNibble (x : Byte) : Nibble := x.extractLsb' 4 4

/-- `x[3:0]` (R72). -/
def loNibble (x : Byte) : Nibble := x.extractLsb' 0 4

/-- The source's two selector values, `RS_INSTR` = 0x00 and `RS_DATA` = 0x80 (R66). -/
def Selector.byte : Selector → Byte
  | .instr => 0x00
  | .data => 0x80

/-- The selector a port-B byte carries in bit 7 (R66, R68). -/
def selectorOf (v : Byte) : Selector := if v.getLsbD 7 then .data else .instr

/-- The fixed wiring of the data lines: bit 0 to 4, bit 1 to 3, bit 2 to 2, bit 3 to 1 (R64). -/
def remap (n : Nibble) : Byte :=
  ((n.extractLsb' 0 1).setWidth 8 <<< 4) ||| ((n.extractLsb' 1 1).setWidth 8 <<< 3)
    ||| ((n.extractLsb' 2 1).setWidth 8 <<< 2) ||| ((n.extractLsb' 3 1).setWidth 8 <<< 1)

/-- The left inverse of `remap` (R65). -/
def unremap (b : Byte) : Nibble :=
  (b.extractLsb' 4 1).setWidth 4 ||| ((b.extractLsb' 3 1).setWidth 4 <<< 1)
    ||| ((b.extractLsb' 2 1).setWidth 4 <<< 2) ||| ((b.extractLsb' 1 1).setWidth 4 <<< 3)

/-- The port-B byte of a transfer (R66). -/
def portb (cfg : Config) (sel : Selector) (n : Nibble) (en : Bool) : Byte :=
  remap n ||| sel.byte ||| (if en then cfg.enMask else 0x00)

/-! ### The display-controller codes (R70, R71) -/

/-- INIT_8BIT: the nibble 0x3 (R70). -/
def init8bitNibble : Nibble := 0x3

/-- SET_4BIT: the nibble 0x2 (R70). -/
def set4bitNibble : Nibble := 0x2

/-- FUNCTION_SET: 0x28 (R70). -/
def functionSetByte : Byte := 0x28

/-- DISPLAY_ON_CURSOR_OFF: 0x0C (R70). -/
def displayOnByte : Byte := 0x0C

/-- ENTRY_MODE_INC: 0x06 (R70). -/
def entryModeByte : Byte := 0x06

/-- CLEAR_DISPLAY: 0x01 (R70). -/
def clearByte : Byte := 0x01

/-- RETURN_HOME: 0x02 (R70). -/
def homeByte : Byte := 0x02

/-- SET_DDRAM_ADDR: the DDRAM-set bit 0x8 or-ed into the high nibble, then the low nibble of the address (R71). -/
def ddramByte (a : DdramAddr) : Byte :=
  (((0x8 : Nibble) ||| (a.extractLsb' 4 3).setWidth 4) ++ a.extractLsb' 0 4 : BitVec 8)

/-! ### The decoder -/

/-- `i` where the must-be-zero check holds, else the reason it is illegal (R75). -/
def requireZero (check : Bool) (why : DecodeError) (rest : Decoded) : Decoded :=
  if check then rest else .illegal why

/-- Decodes the fields of a request word with its payload (R62, R63, R75). -/
def decodeFields (f : ReqFields) (payload : List Byte) : Decoded :=
  let noDev (k : Decoded) : Decoded := requireZero (f.dev == false) .deviceBit k
  let noA (k : Decoded) : Decoded := requireZero (f.a == 0) .operandBits k
  let noB (k : Decoded) : Decoded := requireZero (f.b == 0) .operandBits k
  let nibbleA (k : Decoded) : Decoded := requireZero (hiNibble f.a == 0) .operandBits k
  let noPayload (k : Decoded) : Decoded := requireZero (payload == []) .payloadLength k
  let noRsv (k : Decoded) : Decoded := requireZero (f.rsv == 0) .reservedBits k
  let dev := deviceOfBit f.dev
  match f.op.toNat with
  | 0x1 => noRsv (noPayload (.ok (.busWrite dev f.a f.b)))
  | 0x2 => noRsv (noB (noPayload (.ok (.busRead dev f.a))))
  | 0x3 => noRsv (noA (noB (noPayload (.ok (.expConfig dev)))))
  | 0x4 => noRsv (noDev (nibbleA (requireZero (f.b == Selector.byte (selectorOf f.b)) .selector
      (noPayload (.ok (.lcdNibble (selectorOf f.b) (loNibble f.a)))))))
  | 0x5 => noRsv (noDev (nibbleA (noB (noPayload (.ok (.lcdInstrNibble (loNibble f.a)))))))
  | 0x6 => noRsv (noDev (noB (noPayload (.ok (.lcdInstrByte f.a)))))
  | 0x7 => noRsv (noDev (noB (noPayload (.ok (.lcdChar f.a)))))
  | 0x8 => noRsv (noDev (noA (noB (noPayload (.ok .lcdInit)))))
  | 0x9 => noRsv (noDev (noA (noB (noPayload (.ok .lcdClearHome)))))
  | 0xA => noRsv (noDev (noB (noPayload (.ok (.lcdSetLine f.a)))))
  | 0xB => noRsv (noDev (noB (requireZero (payload.length == f.a.toNat) .payloadLength (.ok (.lcdPrint payload)))))
  | 0xC => noRsv (noDev (noA (noB (noPayload (.ok .panelReadButtons)))))
  | 0xD => noRsv (noDev (noB (noPayload (.ok (.panelWriteLights f.a)))))
  | _ => .illegal .reservedOpcode

/-- Decodes a request (R62, R63, R75). -/
def decodeRequest (r : Request) : Decoded := decodeFields (unpackWord r.word) r.payload

/-- Decodes a lone instruction nibble: the two rows of format lcd_nibble (R70). -/
def decodeLcdNibble (n : Nibble) : Decoded :=
  if n = init8bitNibble then .ok .init8bit
  else if n = set4bitNibble then .ok .set4bit
  else .illegal .notADisplayCode

/-- Decodes a display-controller instruction byte: the six rows of format lcd_instr (R70). -/
def decodeLcdInstr (b : Byte) : Decoded :=
  if b = functionSetByte then .ok .functionSet
  else if b = displayOnByte then .ok .displayOnCursorOff
  else if b = entryModeByte then .ok .entryModeInc
  else if b = clearByte then .ok .clearDisplay
  else if b = homeByte then .ok .returnHome
  else if b.getLsbD 7 then .ok (.setDdramAddr (b.extractLsb' 0 7))
  else .illegal .notADisplayCode

/-- Decodes a port-B byte: bit 7 the selector, bits 4:1 the remapped nibble, the bit of `EN_MASK` the enable, every other bit 0
(R66). -/
def decodePortb (cfg : Config) (v : Byte) : Decoded :=
  let en := decide (v &&& cfg.enMask ≠ 0)
  if portb cfg (selectorOf v) (unremap v) en = v then .ok (.portbByte (selectorOf v) (unremap v) en)
  else .illegal .notAPortByte

/-- Decodes a code of any format of spec/opcode_table.json. -/
def decode (cfg : Config) : Code → Decoded
  | .req r => decodeRequest r
  | .lcdNibble n => decodeLcdNibble n
  | .lcdInstr b => decodeLcdInstr b
  | .lcdData b => .ok (.writeData b)
  | .portb b => decodePortb cfg b

/-! ### The serial host link (R73) -/

/-- The request at the head of the bytes on the host link, the word's most significant byte first, then its payload; none while
it has not arrived whole. -/
def takeRequest : List Byte → Option (Request × List Byte)
  | b2 :: b1 :: b0 :: rest =>
    let w : ReqWord := b2 ++ b1 ++ b0
    if rest.length < payloadLength w then none
    else some ({ word := w, payload := rest.take (payloadLength w) }, rest.drop (payloadLength w))
  | _ => none

/-- Decodes the bytes of the host link: the first instruction and the bytes after it. -/
def decodeBytes (bytes : List Byte) : Option (Decoded × List Byte) :=
  (takeRequest bytes).map fun p => (decodeRequest p.1, p.2)

/-! ### The encoder -/

/-- The request word with the given opcode, device and operand bytes, and RSV = 000 (R61). -/
def requestWord (op : BitVec 4) (d : Device) (a b : Byte) : ReqWord :=
  packWord { op := op, dev := d.bit, rsv := 0, a := a, b := b }

/-- A request without payload. -/
def wordRequest (op : BitVec 4) (d : Device) (a b : Byte) : Request :=
  { word := requestWord op d a b, payload := [] }

/-- The host request that has the block carry out an instruction: for a request row, its own words (R62); for a display code,
the request that sends exactly that code (R70: `LCD_INSTR_NIBBLE`, `LCD_INSTR_BYTE`; R120: `LCD_CHAR`; R66, R90: a `BUS_WRITE`
to the LCD device's port-B data register). DESIGN CHOICE, notes/assumptions/3.md. -/
def requestOf (cfg : Config) : Instr → Request
  | .busWrite d r v => wordRequest 0x1 d r v
  | .busRead d r => wordRequest 0x2 d r 0
  | .expConfig d => wordRequest 0x3 d 0 0
  | .lcdNibble sel n => wordRequest 0x4 .panel (n.setWidth 8) sel.byte
  | .lcdInstrNibble n => wordRequest 0x5 .panel (n.setWidth 8) 0
  | .lcdInstrByte b => wordRequest 0x6 .panel b 0
  | .lcdChar c => wordRequest 0x7 .panel c 0
  | .lcdInit => wordRequest 0x8 .panel 0 0
  | .lcdClearHome => wordRequest 0x9 .panel 0 0
  | .lcdSetLine l => wordRequest 0xA .panel l 0
  | .lcdPrint text => { word := requestWord 0xB .panel (BitVec.ofNat 8 text.length) 0, payload := text }
  | .panelReadButtons => wordRequest 0xC .panel 0 0
  | .panelWriteLights v => wordRequest 0xD .panel v 0
  | .init8bit => wordRequest 0x5 .panel (init8bitNibble.setWidth 8) 0
  | .set4bit => wordRequest 0x5 .panel (set4bitNibble.setWidth 8) 0
  | .functionSet => wordRequest 0x6 .panel functionSetByte 0
  | .displayOnCursorOff => wordRequest 0x6 .panel displayOnByte 0
  | .entryModeInc => wordRequest 0x6 .panel entryModeByte 0
  | .clearDisplay => wordRequest 0x6 .panel clearByte 0
  | .returnHome => wordRequest 0x6 .panel homeByte 0
  | .setDdramAddr a => wordRequest 0x6 .panel (ddramByte a) 0
  | .writeData c => wordRequest 0x7 .panel c 0
  | .portbByte sel n en => wordRequest 0x1 .lcd cfg.regDataB (portb cfg sel n en)

/-- The code of an instruction, in its row's own format. -/
def encode (cfg : Config) : Instr → Code
  | .busWrite d r v => .req (requestOf cfg (.busWrite d r v))
  | .busRead d r => .req (requestOf cfg (.busRead d r))
  | .expConfig d => .req (requestOf cfg (.expConfig d))
  | .lcdNibble sel n => .req (requestOf cfg (.lcdNibble sel n))
  | .lcdInstrNibble n => .req (requestOf cfg (.lcdInstrNibble n))
  | .lcdInstrByte b => .req (requestOf cfg (.lcdInstrByte b))
  | .lcdChar c => .req (requestOf cfg (.lcdChar c))
  | .lcdInit => .req (requestOf cfg .lcdInit)
  | .lcdClearHome => .req (requestOf cfg .lcdClearHome)
  | .lcdSetLine l => .req (requestOf cfg (.lcdSetLine l))
  | .lcdPrint text => .req (requestOf cfg (.lcdPrint text))
  | .panelReadButtons => .req (requestOf cfg .panelReadButtons)
  | .panelWriteLights v => .req (requestOf cfg (.panelWriteLights v))
  | .init8bit => .lcdNibble init8bitNibble
  | .set4bit => .lcdNibble set4bitNibble
  | .functionSet => .lcdInstr functionSetByte
  | .displayOnCursorOff => .lcdInstr displayOnByte
  | .entryModeInc => .lcdInstr entryModeByte
  | .clearDisplay => .lcdInstr clearByte
  | .returnHome => .lcdInstr homeByte
  | .setDdramAddr a => .lcdInstr (ddramByte a)
  | .writeData c => .lcdData c
  | .portbByte sel n en => .portb (portb cfg sel n en)

/-- A request as the serial host link carries it: most significant byte first, then the payload in order (R73). -/
def Request.serial (r : Request) : List Byte :=
  r.word.extractLsb' 16 8 :: r.word.extractLsb' 8 8 :: r.word.extractLsb' 0 8 :: r.payload

/-! ### The rows of spec/opcode_table.json -/

/-- The match and mask of R62's table for the row of a request instruction; none for the rows of the display codes. -/
def requestRow : Instr → Option (ReqWord × ReqWord)
  | .busWrite _ _ _ => some (0x100000, 0xF70000)
  | .busRead _ _ => some (0x200000, 0xF700FF)
  | .expConfig _ => some (0x300000, 0xF7FFFF)
  | .lcdNibble _ _ => some (0x400000, 0xFFF07F)
  | .lcdInstrNibble _ => some (0x500000, 0xFFF0FF)
  | .lcdInstrByte _ => some (0x600000, 0xFF00FF)
  | .lcdChar _ => some (0x700000, 0xFF00FF)
  | .lcdInit => some (0x800000, 0xFFFFFF)
  | .lcdClearHome => some (0x900000, 0xFFFFFF)
  | .lcdSetLine _ => some (0xA00000, 0xFF00FF)
  | .lcdPrint _ => some (0xB00000, 0xFF00FF)
  | .panelReadButtons => some (0xC00000, 0xFFFFFF)
  | .panelWriteLights _ => some (0xD00000, 0xFF00FF)
  | .init8bit => none
  | .set4bit => none
  | .functionSet => none
  | .displayOnCursorOff => none
  | .entryModeInc => none
  | .clearDisplay => none
  | .returnHome => none
  | .setDdramAddr _ => none
  | .writeData _ => none
  | .portbByte _ _ _ => none

/-- The 13 rows of R62, match and mask, in the table's order. -/
def requestRows : List (ReqWord × ReqWord) :=
  [(0x100000, 0xF70000), (0x200000, 0xF700FF), (0x300000, 0xF7FFFF), (0x400000, 0xFFF07F), (0x500000, 0xFFF0FF),
   (0x600000, 0xFF00FF), (0x700000, 0xFF00FF), (0x800000, 0xFFFFFF), (0x900000, 0xFFFFFF), (0xA00000, 0xFF00FF),
   (0xB00000, 0xFF00FF), (0xC00000, 0xFFFFFF), (0xD00000, 0xFF00FF)]

/-- The payload bytes that follow the word in a number that counts its bits on from bit 24. -/
def payloadBytes (w : Nat) : Nat → List Byte
  | 0 => []
  | n + 1 => payloadBytes w n ++ [BitVec.ofNat 8 (w >>> (24 + 8 * n))]

/-- The code of a word of the opcode table. A row of 24 bits is a request, a row of 4 bits a lone nibble. The 8-bit
formats do not say which of them a byte is in (the selector is not among its bits): a byte of R70's list is read as that
instruction, else a byte that is a nibble of R70's list as that nibble, else it is character data. DESIGN CHOICE,
notes/assumptions/4.md. -/
def tableCode (nbits w : Nat) : Code :=
  let b : Byte := BitVec.ofNat 8 w
  if nbits ≤ 4 then .lcdNibble (BitVec.ofNat 4 w)
  else if nbits ≤ 8 then
    match decodeLcdInstr b with
    | .ok _ => .lcdInstr b
    | .illegal _ =>
      if hiNibble b = 0 ∧ (loNibble b = init8bitNibble ∨ loNibble b = set4bitNibble) then .lcdNibble (loNibble b)
      else .lcdData b
  else
    let word : ReqWord := BitVec.ofNat 24 w
    .req { word := word, payload := payloadBytes w (payloadLength word) }

/-- The request that has the block carry out a code: a request is itself, a display code the request that sends it. -/
def carrierOf (cfg : Config) : Code → Request
  | .req r => r
  | .lcdNibble n => requestOf cfg (.lcdInstrNibble n)
  | .lcdInstr b => requestOf cfg (.lcdInstrByte b)
  | .lcdData b => requestOf cfg (.writeData b)
  | .portb b => requestOf cfg (.busWrite .lcd cfg.regDataB b)

/-- The instruction the decoder reads from a word of the opcode table. A port-B byte's format is never read from a table word, so
the configuration does not matter. -/
def decodeTableWord (nbits w : Nat) : Option Instr :=
  match decode Config.board (tableCode nbits w) with
  | .ok i => some i
  | .illegal _ => none

end Sys2Proof
end

