-- ==== Sys2Proof/Machine/Params.lean ====
section
/-!
DEFINITION. The checks on the parameters of 00_scope.md R7, the reference configuration, and the parameters the machine is
installed with.
-/
namespace Sys2Proof

/-- The constraints of R7: `EN_MASK` is one of 0x01, 0x20 and 0x40 (R66), the device addresses differ, the register addresses
are pairwise distinct. -/
abbrev Config.wf (c : Config) : Prop :=
  (c.enMask = 0x01 ∨ c.enMask = 0x20 ∨ c.enMask = 0x40) ∧ c.lcdDev ≠ c.panelDev ∧
    [c.regDirA, c.regDirB, c.regPolA, c.regPupA, c.regDataA, c.regDataB].Nodup

/-- The delays and choices R7 gives a value: the source's four pauses, no extra pause in printing, and a final home. -/
def Config.withDefaults (c : Config) : Config :=
  { c with tPoweronMs := 4, tCharMs := 1, tClearMs := 1, tHomeMs := 1, printExtraMs := 0, initFinalHome := true }

/-- The REF values of R7, which 95_test_vectors.md uses; they are not normative. REF gives `READ_REPEATED_START` no value, and
no rule depends on it. -/
def Config.ref : Config :=
  { enMask := 0x20, lcdDev := 0x21, panelDev := 0x20
    regDirA := 0x00, regDirB := 0x01, regPolA := 0x02, regPupA := 0x0C, regDataA := 0x12, regDataB := 0x13
    vDirIn := 0xFF, vDirOut := 0x00, vPolInv := 0xFF, vPupOn := 0xFF
    tPoweronMs := 4, tCharMs := 1, tClearMs := 1, tHomeMs := 1, printExtraMs := 0, initFinalHome := true
    readRepeatedStart := true }

/-- The parameters at reset: the board's own where they meet R7's constraints, with R7's values for the delays and choices
it fixes. Nothing can be proved of the board's, so they stand for every configuration R7 admits
(notes/assumptions/1.md). -/
def Config.installed : Config :=
  if Config.board.wf then Config.board.withDefaults else Config.ref

/-- `LCD_COLS` (R7): the display's physical line width. Informative: no rule of the block checks it (R141). -/
def lcdCols : Nat := 20

/-- The bus address of a device (R7, R61). -/
def Config.busAddr (c : Config) : Device → BusAddr
  | .lcd => c.lcdDev
  | .panel => c.panelDev

end Sys2Proof
end

