-- ==== Sys2Proof/Machine/State.lean ====
section
/-!
DEFINITION. The state of the block (10_state.md R20), the data it holds (micro-ops R10, events R27, fault records R26), and what the
model keeps beside it of the block's environment: the parameters, the host's side of the link and the bus's answers.
-/
namespace Sys2Proof.Machine

/-- A micro-op of the sequencer (R10, R24). -/
inductive MicroOp where
  /-- One RegisterBus `write` (R42, R91). -/
  | busWrite (dev : Device) (reg value : Byte)
  /-- One RegisterBus `writeThenRead` (R43, R94). -/
  | busRead (dev : Device) (reg : Byte)
  /-- A wait of at least `ms` milliseconds (R52). -/
  | delay (ms : Nat)
  deriving DecidableEq, Repr

/-- The synchronous fault causes (R160). -/
inductive Cause where
  | illegalRequest
  | notConfigured
  | notInitialized
  | reconfigure
  | overlap
  | fatalIO
  deriving DecidableEq, Repr

/-- The kind of a transaction (R26). -/
inductive TxnKind where
  | write
  | read
  deriving DecidableEq, Repr

/-- The failing transaction a fault record holds: `(kind, dev, reg, value)`, with no value for a read (R26, R165). -/
structure Txn where
  kind : TxnKind
  dev : Device
  reg : Byte
  value : Option Byte
  deriving DecidableEq, Repr

/-- A fault record `(cause, req_word, upc, txn)` (R26). -/
structure FaultRecord where
  cause : Cause
  reqWord : ReqWord
  upc : Nat
  txn : Option Txn
  deriving DecidableEq, Repr

/-- The events of the trace (R27). -/
inductive Event where
  /-- `Req(word, payload)`: the host submits a request. -/
  | req (word : ReqWord) (payload : List Byte)
  /-- `Wr(dev, reg, v, ok)`: a write transaction. -/
  | wr (dev : Device) (reg value : Byte) (ok : Bool)
  /-- `Rd(dev, reg, v)`, or `Rd(dev, reg, fail)` where the value is none. -/
  | rd (dev : Device) (reg : Byte) (value : Option Byte)
  /-- `Dl(ms)`: a delay of at least `ms` milliseconds. -/
  | dl (ms : Nat)
  /-- `Done(resp)`: a request completes. -/
  | done (resp : Option Byte)
  /-- `Flt(cause)`: a fault. -/
  | flt (cause : Cause)
  /-- `Flt(Faulted)`: the refusal marker of a request given after a fault (R168). -/
  | fltFaulted
  deriving DecidableEq, Repr

/-- Bytes by location, in canonical form: locations strictly rising, each below 512. An unlisted location is `unwritten`
(R20); there is no byte that stands for it, so no entry equals it. -/
abbrev Memory := List Host.Cell

/-- The canonical form of `Memory`. -/
abbrev Memory.wf (m : Memory) : Prop :=
  m.Pairwise (fun x y => x.1 < y.1) ∧ ∀ c ∈ m, c.1 < 512

/-- One answer of the bus (R95): whether the transport succeeds, and the byte a successful read returns. -/
structure BusAnswer where
  ok : Bool
  byte : Byte
  deriving DecidableEq, Repr

/-- Who moves at a step. -/
inductive Turn where
  /-- The host's next request arrives (R60). -/
  | host
  /-- The block's sequencer takes a step (R24). -/
  | block
  /-- The block is reset (R190). -/
  | reset
  deriving DecidableEq, Repr

/-- The machine's state. The first ten fields are the record of R20 (`configured[d]` is one field per device); the last five
are the model's own and stand for the block's environment (notes/assumptions/1.md, 2.md, 5.md). -/
structure State where
  /-- `configured[LCD]` (R22). -/
  configuredLcd : Bool
  /-- `configured[PANEL]` (R22). -/
  configuredPanel : Bool
  /-- `lcd_ready` (R23). -/
  lcdReady : Bool
  /-- `fault` (R26, R166). -/
  fault : Option FaultRecord
  /-- `busy` (R24). -/
  busy : Bool
  /-- `req`: the request in progress, with its payload. -/
  req : Option Request
  /-- `uops`: the expansion of `req` (R24). -/
  uops : List MicroOp
  /-- `upc`: the index of the next micro-op (R24). -/
  upc : Nat
  /-- `shadow[d][r]`, at the location of `(d, r)` (R30). -/
  shadow : Memory
  /-- `trace` (R27), oldest event first. -/
  trace : List Event
  /-- The parameters of R7; no step changes them. -/
  cfg : Config
  /-- The bytes the host has put on the link and the block has not taken (R73). -/
  link : List Byte
  /-- Who moves at the coming steps. Where it is empty, a busy block moves, and else the host. -/
  turns : List Turn
  /-- The bus's coming answers, as a script; where it is empty they are free values (R95). -/
  answers : List BusAnswer
  /-- How many free bus answers have been drawn. -/
  draws : Nat
  deriving DecidableEq, Repr

/-- Where the machine has no step at all. Every fault of R160 is a NEXT state (R166), so this type holds none of them. -/
inductive Fault where
  /-- Raised by the sequencer when it is busy and `upc` lies beyond the end of `uops`, which R24 excludes ("`upc` ranges over
  0 to `len(uops)`") and gives no step for: stuck. SAFE: no state that meets the model's invariant reaches it. -/
  | sequencerStuck
  deriving DecidableEq, Repr

/-- Why an instruction has no meaning in the model. -/
inductive Refusal where
  /-- An instruction the model gives no meaning to. SAFE: nothing can be proved of it. No arm of `exec` raises it. -/
  | notModelled (mnemonic : String)
  deriving DecidableEq, Repr

/-- The machine right after reset (R33, R190): no device configured, not ready, no fault, idle, every `shadow` entry
unwritten, the trace empty. The environment: the installed parameters, nothing on the link, no turn and no answer
scripted. -/
def State.reset : State :=
  { configuredLcd := false, configuredPanel := false, lcdReady := false, fault := none, busy := false, req := none
    uops := [], upc := 0, shadow := [], trace := [], cfg := Config.installed, link := [], turns := [], answers := []
    draws := 0 }

end Sys2Proof.Machine
end

