-- ==== Sys2Proof/Machine/Flags.lean ====
section
/-!
DEFINITION. The status flags (10_state.md R22, R23, R34): reading and setting them, the acceptance checks that read them (R110, R150,
R100), and the flags a request sets when it completes (R101, R126). There are no arithmetic flags (R34).
-/
namespace Sys2Proof.Machine

/-- `configured[d]` (R22). -/
def State.configured (s : State) : Device → Bool
  | .lcd => s.configuredLcd
  | .panel => s.configuredPanel

/-- Sets `configured[d]` (R22). -/
def State.setConfigured (s : State) (d : Device) : State :=
  { s with configuredLcd := s.configuredLcd || d == .lcd, configuredPanel := s.configuredPanel || d == .panel }

/-- Sets `lcd_ready` (R23). -/
def State.setReady (s : State) : State :=
  { s with lcdReady := true }

/-- The precondition of every LCD request but LCD_INIT (R110). -/
def checkReady (s : State) : Option Cause :=
  if s.lcdReady then none else some .notInitialized

/-- The precondition of LCD_INIT and of the PANEL requests (R110, R150). -/
def checkConfigured (d : Device) (s : State) : Option Cause :=
  if s.configured d then none else some .notConfigured

/-- The precondition of EXP_CONFIG (R100). -/
def checkUnconfigured (d : Device) (s : State) : Option Cause :=
  if s.configured d then some .reconfigure else none

/-- The precondition an instruction is accepted under, and the cause its failure raises (R162, check 4): R110, R150, R100; none
for BUS_WRITE and BUS_READ (R90, R93). A display code has the precondition of the request that sends it. -/
def precondition (s : State) : Instr → Option Cause
  | .busWrite _ _ _ => none
  | .busRead _ _ => none
  | .expConfig d => checkUnconfigured d s
  | .lcdNibble _ _ => checkReady s
  | .lcdInstrNibble _ => checkReady s
  | .lcdInstrByte _ => checkReady s
  | .lcdChar _ => checkReady s
  | .lcdInit => checkConfigured .lcd s
  | .lcdClearHome => checkReady s
  | .lcdSetLine _ => checkReady s
  | .lcdPrint _ => checkReady s
  | .panelReadButtons => checkConfigured .panel s
  | .panelWriteLights _ => checkConfigured .panel s
  | .init8bit => checkReady s
  | .set4bit => checkReady s
  | .functionSet => checkReady s
  | .displayOnCursorOff => checkReady s
  | .entryModeInc => checkReady s
  | .clearDisplay => checkReady s
  | .returnHome => checkReady s
  | .setDdramAddr _ => checkReady s
  | .writeData _ => checkReady s
  | .portbByte _ _ _ => none

/-- The flags an instruction sets when it completes (R34): EXP_CONFIG sets `configured[d]` (R101), LCD_INIT sets `lcd_ready`
(R126), no other sets any. -/
def completionFlags (s : State) : Instr → State
  | .busWrite _ _ _ => s
  | .busRead _ _ => s
  | .expConfig d => s.setConfigured d
  | .lcdNibble _ _ => s
  | .lcdInstrNibble _ => s
  | .lcdInstrByte _ => s
  | .lcdChar _ => s
  | .lcdInit => s.setReady
  | .lcdClearHome => s
  | .lcdSetLine _ => s
  | .lcdPrint _ => s
  | .panelReadButtons => s
  | .panelWriteLights _ => s
  | .init8bit => s
  | .set4bit => s
  | .functionSet => s
  | .displayOnCursorOff => s
  | .entryModeInc => s
  | .clearDisplay => s
  | .returnHome => s
  | .setDdramAddr _ => s
  | .writeData _ => s
  | .portbByte _ _ _ => s

/-- The flags the request in progress sets when it completes (R24, R101, R126). -/
def applyCompletion (s : State) : State :=
  match s.req with
  | some r =>
    match decodeRequest r with
    | .ok i => completionFlags s i
    | .illegal _ => s
  | none => s

end Sys2Proof.Machine
end

