-- ==== Sys2Proof/Machine/Operands.lean ====
section
/-!
DEFINITION. The operand forms (30_encoding.md R61, R63): the location `(dev, reg)` an access names, and the line number's
display-memory address. The fields themselves are extracted by the decoder.
-/
namespace Sys2Proof.Machine

/-- The location of `(dev, reg)` in `Memory`: the DEV bit of R61 above the 8-bit register address (R40). -/
def location (d : Device) (reg : Byte) : Nat :=
  (match d with | .panel => 0 | .lcd => 256) + reg.toNat

/-- `LINE_ADDR` = [0, 64, 20, 84] (R135); none for a line number outside 0 to 3, the block's one comparison
`line < 4` (R11, R136). -/
def lineAddr (line : Byte) : Option DdramAddr :=
  if line < 4 then ([0, 64, 20, 84] : List DdramAddr)[line.toNat]? else none

end Sys2Proof.Machine
end

