-- ==== Sys2Proof/Machine/Ops.lean ====
section
/-!
DEFINITION. The shared operations: the memory of `shadow` (10_state.md R30), the trace (R27), entering the faulted state (60_exceptions.md
R166), submitting a request (R162), performing a micro-op (40_register_bus.md R91, R94), the sequencer (R24), the host port and
reset (R190).
-/
namespace Sys2Proof.Machine

/-! ### Memory -/

/-- The byte at a location; none where it is `unwritten`. -/
def Memory.get : Memory → Nat → Option Byte
  | [], _ => none
  | (b, w) :: m, a => if b = a then some w else Memory.get m a

/-- Writes a byte, keeping the canonical form. -/
def Memory.set : Memory → Nat → Byte → Memory
  | [], a, v => [(a, v)]
  | (b, w) :: m, a, v =>
    if a < b then (a, v) :: (b, w) :: m
    else if a = b then (a, v) :: m
    else (b, w) :: Memory.set m a v

/-- Makes a location `unwritten`, keeping the canonical form. -/
def Memory.erase : Memory → Nat → Memory
  | [], _ => []
  | (b, w) :: m, a => if b = a then m else (b, w) :: Memory.erase m a

/-- `shadow[d][r]` (R30). -/
def State.shadowAt (s : State) (d : Device) (reg : Byte) : Option Byte :=
  s.shadow.get (location d reg)

/-- `shadow[d][r] <- v` after a successful write (R30). -/
def State.setShadow (s : State) (d : Device) (reg v : Byte) : State :=
  { s with shadow := s.shadow.set (location d reg) v }

/-- `shadow[d][r] <- unwritten` after a failed write (R30). -/
def State.clearShadow (s : State) (d : Device) (reg : Byte) : State :=
  { s with shadow := s.shadow.erase (location d reg) }

/-! ### The trace, and the end of a request -/

/-- `trace <- trace ++ [e]` (R27). -/
def State.emit (s : State) (e : Event) : State :=
  { s with trace := s.trace ++ [e] }

/-- `busy <- false; req <- none; uops <- []; upc <- 0` (R24, R166). -/
def State.clearRequest (s : State) : State :=
  { s with busy := false, req := none, uops := [], upc := 0 }

/-- TAKING A FAULT: `raise Fault(cause, info)` (R166). It writes the record, appends `Flt(cause)` and abandons the request in
progress; it changes neither `configured` nor `lcd_ready` nor `shadow`. There is no return from it (R168). -/
def State.raise (s : State) (f : FaultRecord) : State :=
  State.clearRequest { s with fault := some f, trace := s.trace ++ [.flt f.cause] }

/-- The request in progress completes: its flags, `Done(resp)`, and the block is idle (R24). -/
def State.complete (s : State) (resp : Option Byte) : State :=
  ((applyCompletion s).emit (.done resp)).clearRequest

/-! ### Submitting a request -/

/-- The block accepts a request: `uops <- expand(req)`, `upc <- 0`, busy (R24). An empty expansion completes in the same step
(R25). -/
def State.accept (s : State) (r : Request) (uops : List MicroOp) : State :=
  let s' := { s with busy := true, req := some r, uops := uops, upc := 0 }
  match uops with
  | [] => s'.complete none
  | _ :: _ => s'

/-- The decision on a request, in the order of R162, after its `Req` event (R27): refused when faulted (R168); `Overlap` when
busy, with the index of the abandoned request's next micro-op (R26, R51); the given cause (an illegal word or a failed
precondition); else accepted. -/
def submit (r : Request) (check : Option Cause) (uops : List MicroOp) (s : State) : State :=
  let s' := s.emit (.req r.word r.payload)
  if s.fault.isSome then s'.emit .fltFaulted
  else if s.busy then s'.raise { cause := .overlap, reqWord := r.word, upc := s.upc, txn := none }
  else
    match check with
    | some c => s'.raise { cause := c, reqWord := r.word, upc := 0, txn := none }
    | none => s'.accept r uops

/-- The host submits a word that is no request (R75): the third check of R162. -/
def submitIllegal (r : Request) (s : State) : State :=
  submit r (some .illegalRequest) [] s

/-! ### The bus -/

/-- The answer of the bus to the next transaction: the script's where there is one, else a free value (R95). -/
def State.nextAnswer (s : State) : BusAnswer :=
  match s.answers with
  | a :: _ => a
  | [] => { ok := Config.busOk s.draws, byte := Config.busByte s.draws }

/-- The state with that answer used up. -/
def State.takeAnswer (s : State) : State :=
  match s.answers with
  | _ :: rest => { s with answers := rest }
  | [] => { s with draws := s.draws + 1 }

/-- The word of the request in progress, for a fault record (R26). -/
def State.reqWord (s : State) : ReqWord :=
  match s.req with
  | some r => r.word
  | none => 0

/-- `perform BusWrite(d, r, v)` under an answer of the bus (R91). -/
def performWrite (a : BusAnswer) (d : Device) (reg v : Byte) (s : State) : State :=
  if a.ok then (s.emit (.wr d reg v true)).setShadow d reg v
  else ((s.emit (.wr d reg v false)).clearShadow d reg).raise
    { cause := .fatalIO, reqWord := s.reqWord, upc := s.upc
      txn := some { kind := .write, dev := d, reg := reg, value := some v } }

/-- `perform BusRead(d, r)` under an answer of the bus (R94). The byte it returns is `a.byte`. -/
def performRead (a : BusAnswer) (d : Device) (reg : Byte) (s : State) : State :=
  if a.ok then s.emit (.rd d reg (some a.byte))
  else (s.emit (.rd d reg none)).raise
    { cause := .fatalIO, reqWord := s.reqWord, upc := s.upc
      txn := some { kind := .read, dev := d, reg := reg, value := none } }

/-- `perform Delay(ms)` (R52): it is recorded, and it always ends (notes/assumptions/6.md). -/
def performDelay (ms : Nat) (s : State) : State :=
  s.emit (.dl ms)

/-- `perform(uop)` (R24). -/
def perform (u : MicroOp) (s : State) : State :=
  match u with
  | .busWrite d reg v => performWrite s.nextAnswer d reg v s.takeAnswer
  | .busRead d reg => performRead s.nextAnswer d reg s.takeAnswer
  | .delay ms => performDelay ms s

/-- The byte a micro-op returns if it succeeds: a read's alone (R94). -/
def returned (u : MicroOp) (s : State) : Option Byte :=
  match u with
  | .busWrite _ _ _ => none
  | .busRead _ _ => some s.nextAnswer.byte
  | .delay _ => none

/-! ### The sequencer -/

/-- After a micro-op: nothing if it raised a fault, else `upc <- upc + 1`, and after the last one the request completes
(R24). -/
def State.advance (s : State) (resp : Option Byte) : State :=
  if s.fault.isSome then s
  else
    let s' := { s with upc := s.upc + 1 }
    if s'.upc = s'.uops.length then s'.complete resp else s'

/-- One step of the sequencer (R24). Idle or faulted, it does nothing. -/
def sequencer (s : State) : Host.Outcome State Fault Refusal :=
  if s.busy && s.fault.isNone then
    match s.uops[s.upc]? with
    | some u => .next ((perform u s).advance (returned u s))
    | none => if s.upc = s.uops.length then .next (s.complete none) else .fault .sequencerStuck
  else .next s

/-! ### The host port and reset -/

/-- Who moves now: the next scripted turn; where none is scripted the host waits for a busy block (R207), and else its
next request arrives. -/
def State.mover (s : State) : Turn :=
  match s.turns with
  | t :: _ => t
  | [] => if s.busy then .block else .host

/-- The state with that turn used up. -/
def State.takeTurn (s : State) : State :=
  { s with turns := s.turns.tail }

/-- The state with the request at the head of the link taken from it. -/
def State.setLink (s : State) (rest : List Byte) : State :=
  { s with link := rest }

/-- Reset: every field of R20's record to its reset value (R33, R190). It causes no bus activity and leaves the environment as
it is. -/
def State.resetBlock (s : State) : State :=
  { State.reset with cfg := s.cfg, link := s.link, turns := s.turns, answers := s.answers, draws := s.draws }

end Sys2Proof.Machine
end

