-- ==== Sys2Proof/Machine/Expand.lean ====
section
/-!
DEFINITION. The expansions: for every instruction the list of micro-ops it is, a pure function of its operands and the
parameters (00_scope.md R10, 10_state.md R24).
-/
namespace Sys2Proof.Machine

/-- `xfer(sel, n)`: the enable-set write, then the enable-clear write, of one nibble (R112). -/
def xfer (cfg : Config) (sel : Selector) (n : Nibble) : List MicroOp :=
  [.busWrite .lcd cfg.regDataB (portb cfg sel n true), .busWrite .lcd cfg.regDataB (portb cfg sel n false)]

/-- `instrNib(n)` (R114). -/
def instrNib (cfg : Config) (n : Nibble) : List MicroOp :=
  xfer cfg .instr n

/-- `instrByte(b)`: high nibble, then low nibble (R116). -/
def instrByte (cfg : Config) (b : Byte) : List MicroOp :=
  instrNib cfg (hiNibble b) ++ instrNib cfg (loNibble b)

/-- `charSend(c)`: two data nibbles and the settle delay (R120). -/
def charSend (cfg : Config) (c : Byte) : List MicroOp :=
  xfer cfg .data (hiNibble c) ++ xfer cfg .data (loNibble c) ++ [.delay cfg.tCharMs]

/-- `clearHome` (R130). -/
def clearHome (cfg : Config) : List MicroOp :=
  instrByte cfg clearByte ++ [.delay cfg.tClearMs] ++ instrByte cfg homeByte ++ [.delay cfg.tHomeMs]

/-- `finalClear` (R124). -/
def finalClear (cfg : Config) : List MicroOp :=
  if cfg.initFinalHome then clearHome cfg else instrByte cfg clearByte ++ [.delay cfg.tClearMs]

/-- The initialization sequence (R124, R125). -/
def initSequence (cfg : Config) : List MicroOp :=
  instrNib cfg init8bitNibble ++ [.delay cfg.tPoweronMs] ++ instrNib cfg init8bitNibble ++ instrNib cfg init8bitNibble
    ++ instrNib cfg set4bitNibble ++ instrByte cfg functionSetByte ++ instrByte cfg displayOnByte
    ++ instrByte cfg entryModeByte ++ finalClear cfg

/-- The set-DDRAM instruction of a line, or nothing for a line number outside 0 to 3 (R134, R136). -/
def setLine (cfg : Config) (line : Byte) : List MicroOp :=
  match lineAddr line with
  | some a => instrByte cfg (ddramByte a)
  | none => []

/-- The extra pause between printed characters, where the parameter asks for one (R140). -/
def printPause (cfg : Config) : List MicroOp :=
  if cfg.printExtraMs > 0 then [.delay cfg.printExtraMs] else []

/-- The characters of a string, one after another, with the extra pause between two but not after the last (R140). -/
def printText (cfg : Config) : List Byte → List MicroOp
  | [] => []
  | c :: rest =>
    match rest with
    | [] => charSend cfg c
    | _ :: _ => charSend cfg c ++ printPause cfg ++ printText cfg rest

/-- The five configuration writes of a device (R100). -/
def configWrites (cfg : Config) (d : Device) : List MicroOp :=
  [.busWrite d cfg.regDirA cfg.vDirIn, .busWrite d cfg.regPolA cfg.vPolInv, .busWrite d cfg.regPupA cfg.vPupOn,
   .busWrite d cfg.regDirB cfg.vDirOut, .busWrite d cfg.regDataB 0x00]

/-- `expand` of an instruction (R24); for a display code, what it is sent as (R66, R70, R71, R120). -/
def expand (cfg : Config) : Instr → List MicroOp
  | .busWrite d reg v => [.busWrite d reg v]
  | .busRead d reg => [.busRead d reg]
  | .expConfig d => configWrites cfg d
  | .lcdNibble sel n => xfer cfg sel n
  | .lcdInstrNibble n => instrNib cfg n
  | .lcdInstrByte b => instrByte cfg b
  | .lcdChar c => charSend cfg c
  | .lcdInit => initSequence cfg
  | .lcdClearHome => clearHome cfg
  | .lcdSetLine line => setLine cfg line
  | .lcdPrint text => printText cfg text
  | .panelReadButtons => [.busRead .panel cfg.regDataA]
  | .panelWriteLights v => [.busWrite .panel cfg.regDataB v]
  | .init8bit => instrNib cfg init8bitNibble
  | .set4bit => instrNib cfg set4bitNibble
  | .functionSet => instrByte cfg functionSetByte
  | .displayOnCursorOff => instrByte cfg displayOnByte
  | .entryModeInc => instrByte cfg entryModeByte
  | .clearDisplay => instrByte cfg clearByte
  | .returnHome => instrByte cfg homeByte
  | .setDdramAddr a => instrByte cfg (ddramByte a)
  | .writeData c => charSend cfg c
  | .portbByte sel n en => [.busWrite .lcd cfg.regDataB (portb cfg sel n en)]

end Sys2Proof.Machine
end

