-- ==== Sys2Proof/Machine/ButtonPanel.lean ====
section
/-!
DEFINITION. The meanings of the button-panel requests (43_button_panel.md).
-/
namespace Sys2Proof.Machine

/-- PANEL_READ_BUTTONS (R151): one read of the PANEL device's port A, returned as read. -/
def execPanelReadButtons (s : State) : Host.Outcome State Fault Refusal :=
  .next (submit (requestOf s.cfg .panelReadButtons) (checkConfigured .panel s) [.busRead .panel s.cfg.regDataA] s)

/-- PANEL_WRITE_LIGHTS (R153): one write of all 8 bits to the PANEL device's port B, merged with nothing (R154). -/
def execPanelWriteLights (v : Byte) (s : State) : Host.Outcome State Fault Refusal :=
  .next (submit (requestOf s.cfg (.panelWriteLights v)) (checkConfigured .panel s)
    [.busWrite .panel s.cfg.regDataB v] s)

end Sys2Proof.Machine
end

