-- ==== Sys2Proof/Machine/DisplayCodes.lean ====
section
/-!
DEFINITION. The meanings of the opcode table's rows that are no host requests: the codes the block sends to the display
(30_encoding.md R66, R70, R71; 42_lcd_driver.md R120). What the block does with such a code is to send it; a host has it sent
by the request that sends exactly that code, and the meaning is that request's (notes/assumptions/3.md). What the display
controller does on receiving it is outside the block (R6, R70).
-/
namespace Sys2Proof.Machine

/-- INIT_8BIT (R70), "one instruction nibble" 0x3: as LCD_INSTR_NIBBLE sends it (R114). -/
def execInit8bit (s : State) : Host.Outcome State Fault Refusal :=
  .next (submit (requestOf s.cfg .init8bit) (checkReady s) (instrNib s.cfg init8bitNibble) s)

/-- SET_4BIT (R70), "one instruction nibble" 0x2: as LCD_INSTR_NIBBLE sends it (R114). -/
def execSet4bit (s : State) : Host.Outcome State Fault Refusal :=
  .next (submit (requestOf s.cfg .set4bit) (checkReady s) (instrNib s.cfg set4bitNibble) s)

/-- FUNCTION_SET (R70), nibbles 0x2, 0x8: as LCD_INSTR_BYTE sends it (R116). -/
def execFunctionSet (s : State) : Host.Outcome State Fault Refusal :=
  .next (submit (requestOf s.cfg .functionSet) (checkReady s) (instrByte s.cfg functionSetByte) s)

/-- DISPLAY_ON_CURSOR_OFF (R70), nibbles 0x0, 0xC: as LCD_INSTR_BYTE sends it (R116). -/
def execDisplayOnCursorOff (s : State) : Host.Outcome State Fault Refusal :=
  .next (submit (requestOf s.cfg .displayOnCursorOff) (checkReady s) (instrByte s.cfg displayOnByte) s)

/-- ENTRY_MODE_INC (R70), nibbles 0x0, 0x6: as LCD_INSTR_BYTE sends it (R116). -/
def execEntryModeInc (s : State) : Host.Outcome State Fault Refusal :=
  .next (submit (requestOf s.cfg .entryModeInc) (checkReady s) (instrByte s.cfg entryModeByte) s)

/-- CLEAR_DISPLAY (R70), nibbles 0x0, 0x1: as LCD_INSTR_BYTE sends it, with no pause (R116, R206). -/
def execClearDisplay (s : State) : Host.Outcome State Fault Refusal :=
  .next (submit (requestOf s.cfg .clearDisplay) (checkReady s) (instrByte s.cfg clearByte) s)

/-- RETURN_HOME (R70), nibbles 0x0, 0x2: as LCD_INSTR_BYTE sends it, with no pause (R116, R206). -/
def execReturnHome (s : State) : Host.Outcome State Fault Refusal :=
  .next (submit (requestOf s.cfg .returnHome) (checkReady s) (instrByte s.cfg homeByte) s)

/-- SET_DDRAM_ADDR (R70, R71), nibbles 0x8 OR addr[6:4], addr[3:0]: as LCD_INSTR_BYTE sends it (R116). -/
def execSetDdramAddr (a : DdramAddr) (s : State) : Host.Outcome State Fault Refusal :=
  .next (submit (requestOf s.cfg (.setDdramAddr a)) (checkReady s) (instrByte s.cfg (ddramByte a)) s)

/-- WRITE_DATA (R120), two data nibbles: as LCD_CHAR sends it, with its settle delay. -/
def execWriteData (c : Byte) (s : State) : Host.Outcome State Fault Refusal :=
  .next (submit (requestOf s.cfg (.writeData c)) (checkReady s) (charSend s.cfg c) s)

/-- PORTB_BYTE (R66), one write to the LCD device's port-B data register: as a BUS_WRITE to it sends it (R90). -/
def execPortbByte (sel : Selector) (n : Nibble) (en : Bool) (s : State) : Host.Outcome State Fault Refusal :=
  .next (submit (requestOf s.cfg (.portbByte sel n en)) none
    [.busWrite .lcd s.cfg.regDataB (portb s.cfg sel n en)] s)

end Sys2Proof.Machine
end

