-- ==== Sys2Proof/Machine/ExpanderConfig.lean ====
section
/-!
DEFINITION. The meaning of the expander configuration request (41_expander_config.md).
-/
namespace Sys2Proof.Machine

/-- EXP_CONFIG (R100): the five configuration writes of a device that is not configured yet, else `Reconfigure`. -/
def execExpConfig (d : Device) (s : State) : Host.Outcome State Fault Refusal :=
  .next (submit (requestOf s.cfg (.expConfig d)) (checkUnconfigured d s) (configWrites s.cfg d) s)

end Sys2Proof.Machine
end

