-- ==== Sys2Proof/Machine/LcdDriver.lean ====
section
/-!
DEFINITION. The meanings of the LcdDriver requests (42_lcd_driver.md).
-/
namespace Sys2Proof.Machine

/-- LCD_NIBBLE (R112): one transfer with an explicit selector. -/
def execLcdNibble (sel : Selector) (n : Nibble) (s : State) : Host.Outcome State Fault Refusal :=
  .next (submit (requestOf s.cfg (.lcdNibble sel n)) (checkReady s) (xfer s.cfg sel n) s)

/-- LCD_INSTR_NIBBLE (R114): one transfer with the instruction selector. -/
def execLcdInstrNibble (n : Nibble) (s : State) : Host.Outcome State Fault Refusal :=
  .next (submit (requestOf s.cfg (.lcdInstrNibble n)) (checkReady s) (instrNib s.cfg n) s)

/-- LCD_INSTR_BYTE (R116): a display instruction as two instruction nibbles, with no delay. -/
def execLcdInstrByte (b : Byte) (s : State) : Host.Outcome State Fault Refusal :=
  .next (submit (requestOf s.cfg (.lcdInstrByte b)) (checkReady s) (instrByte s.cfg b) s)

/-- LCD_CHAR (R120): a character as two data nibbles, then the settle delay. -/
def execLcdChar (c : Byte) (s : State) : Host.Outcome State Fault Refusal :=
  .next (submit (requestOf s.cfg (.lcdChar c)) (checkReady s) (charSend s.cfg c) s)

/-- LCD_INIT (R124): the initialization sequence; it needs the LCD device configured (R110) and may be repeated (R128). -/
def execLcdInit (s : State) : Host.Outcome State Fault Refusal :=
  .next (submit (requestOf s.cfg .lcdInit) (checkConfigured .lcd s) (initSequence s.cfg) s)

/-- LCD_CLEAR_HOME (R130): clear and its pause, return home and its pause. -/
def execLcdClearHome (s : State) : Host.Outcome State Fault Refusal :=
  .next (submit (requestOf s.cfg .lcdClearHome) (checkReady s) (clearHome s.cfg) s)

/-- LCD_SET_LINE (R134): the set-DDRAM instruction of line 0 to 3; any other line number sends nothing (R136). -/
def execLcdSetLine (line : Byte) (s : State) : Host.Outcome State Fault Refusal :=
  .next (submit (requestOf s.cfg (.lcdSetLine line)) (checkReady s) (setLine s.cfg line) s)

/-- LCD_PRINT (R140): every payload byte as a character, neither padded nor truncated (R141). -/
def execLcdPrint (text : List Byte) (s : State) : Host.Outcome State Fault Refusal :=
  .next (submit (requestOf s.cfg (.lcdPrint text)) (checkReady s) (printText s.cfg text) s)

end Sys2Proof.Machine
end

