-- ==== Sys2Proof/Machine/RegisterBus.lean ====
section
/-!
DEFINITION. The meanings of the RegisterBus requests (40_register_bus.md).
-/
namespace Sys2Proof.Machine

/-- BUS_WRITE (R90): one write of `v` to register `reg` of device `d`; no precondition. -/
def execBusWrite (d : Device) (reg v : Byte) (s : State) : Host.Outcome State Fault Refusal :=
  .next (submit (requestOf s.cfg (.busWrite d reg v)) none [.busWrite d reg v] s)

/-- BUS_READ (R93): one read of register `reg` of device `d`, whose byte is the completion's response; no precondition. -/
def execBusRead (d : Device) (reg : Byte) (s : State) : Host.Outcome State Fault Refusal :=
  .next (submit (requestOf s.cfg (.busRead d reg)) none [.busRead d reg] s)

end Sys2Proof.Machine
end

