-- ==== Sys2Proof/Machine/Dispatch.lean ====
section
/-!
DEFINITION. One arm per constructor of Instr: the host submits the request (or has the display code sent) in the given state.
-/
namespace Sys2Proof.Machine

/-- The meaning of an instruction. -/
def exec (i : Instr) (s : State) : Host.Outcome State Fault Refusal :=
  match i with
  | .busWrite d reg v => Sys2Proof.Machine.execBusWrite d reg v s
  | .busRead d reg => Sys2Proof.Machine.execBusRead d reg s
  | .expConfig d => Sys2Proof.Machine.execExpConfig d s
  | .lcdNibble sel n => Sys2Proof.Machine.execLcdNibble sel n s
  | .lcdInstrNibble n => Sys2Proof.Machine.execLcdInstrNibble n s
  | .lcdInstrByte b => Sys2Proof.Machine.execLcdInstrByte b s
  | .lcdChar c => Sys2Proof.Machine.execLcdChar c s
  | .lcdInit => Sys2Proof.Machine.execLcdInit s
  | .lcdClearHome => Sys2Proof.Machine.execLcdClearHome s
  | .lcdSetLine line => Sys2Proof.Machine.execLcdSetLine line s
  | .lcdPrint text => Sys2Proof.Machine.execLcdPrint text s
  | .panelReadButtons => Sys2Proof.Machine.execPanelReadButtons s
  | .panelWriteLights v => Sys2Proof.Machine.execPanelWriteLights v s
  | .init8bit => Sys2Proof.Machine.execInit8bit s
  | .set4bit => Sys2Proof.Machine.execSet4bit s
  | .functionSet => Sys2Proof.Machine.execFunctionSet s
  | .displayOnCursorOff => Sys2Proof.Machine.execDisplayOnCursorOff s
  | .entryModeInc => Sys2Proof.Machine.execEntryModeInc s
  | .clearDisplay => Sys2Proof.Machine.execClearDisplay s
  | .returnHome => Sys2Proof.Machine.execReturnHome s
  | .setDdramAddr a => Sys2Proof.Machine.execSetDdramAddr a s
  | .writeData c => Sys2Proof.Machine.execWriteData c s
  | .portbByte sel n en => Sys2Proof.Machine.execPortbByte sel n en s

end Sys2Proof.Machine
end

