-- ==== Sys2Proof/Machine/Step.lean ====
section
/-!
DEFINITION. One step of the machine: the block is reset, its sequencer moves, or the host's next request arrives; and the
placing of an instruction where the next step takes it.
-/
namespace Sys2Proof.Machine

/-- One step. At a host turn the request at the head of the link is submitted (R60): an illegal word by its own rule (R75), any
other by its instruction's meaning; while no whole request is on the link nothing arrives. -/
def step (s : State) : Host.Outcome State Fault Refusal :=
  match s.mover with
  | .reset => .next s.takeTurn.resetBlock
  | .block => sequencer s.takeTurn
  | .host =>
    match takeRequest s.link with
    | none => .next s.takeTurn
    | some (r, rest) =>
      match decodeRequest r with
      | .illegal _ => .next (submitIllegal r (s.takeTurn.setLink rest))
      | .ok i => exec i (s.takeTurn.setLink rest)

/-- `s` with an instruction of the opcode table at the head of the host link, and the host to move: the host submits it at the
very next step. A display code stands there as the request that sends it (notes/assumptions/3.md, 5.md). -/
def State.withFetchWord (s : State) (nbits w : Nat) : State :=
  { s with link := (carrierOf s.cfg (tableCode nbits w)).serial ++ s.link, turns := .host :: s.turns }

end Sys2Proof.Machine
end

