-- ==== Sys2Proof/Machine/Text.lean ====
section
/-!
DEFINITION. The textual syntax of 30_encoding.md R74: the line a request is written as, and the two pseudo-instructions with their
expansions. It has no effect on semantics (92_eei_decisions.md D3).
-/
namespace Sys2Proof

/-- A nibble as a hexadecimal digit. -/
def hexDigit (n : Nibble) : Char :=
  if n.toNat < 10 then Char.ofNat (48 + n.toNat) else Char.ofNat (55 + n.toNat)

/-- A byte as a hexadecimal literal (R9). -/
def hexByte (b : Byte) : String :=
  "0x" ++ String.ofList [hexDigit (hiNibble b), hexDigit (loNibble b)]

/-- A nibble as a hexadecimal literal (R9). -/
def hexNibble (n : Nibble) : String :=
  "0x" ++ String.ofList [hexDigit n]

/-- `lcd` or `panel` (R74). -/
def Device.text : Device → String
  | .lcd => "lcd"
  | .panel => "panel"

/-- `instr` or `data` (R74). -/
def Selector.text : Selector → String
  | .instr => "instr"
  | .data => "data"

/-- The line of a request (R74); none for the display codes, which are no requests. DESIGN CHOICE, notes/assumptions/22.md: a payload
byte of LCD_PRINT that is no printable ASCII character, for which R74 gives no text, is written as the Unicode character of that
number. -/
def requestText : Instr → Option String
  | .busWrite d reg v => some ("BUS_WRITE " ++ d.text ++ ", " ++ hexByte reg ++ ", " ++ hexByte v)
  | .busRead d reg => some ("BUS_READ " ++ d.text ++ ", " ++ hexByte reg)
  | .expConfig d => some ("EXP_CONFIG " ++ d.text)
  | .lcdNibble sel n => some ("LCD_NIBBLE " ++ sel.text ++ ", " ++ hexNibble n)
  | .lcdInstrNibble n => some ("LCD_INSTR_NIBBLE " ++ hexNibble n)
  | .lcdInstrByte b => some ("LCD_INSTR_BYTE " ++ hexByte b)
  | .lcdChar c => some ("LCD_CHAR " ++ hexByte c)
  | .lcdInit => some "LCD_INIT"
  | .lcdClearHome => some "LCD_CLEAR_HOME"
  | .lcdSetLine l => some ("LCD_SET_LINE " ++ hexByte l)
  | .lcdPrint text => some ("LCD_PRINT \"" ++ String.ofList (text.map fun c => Char.ofNat c.toNat) ++ "\"")
  | .panelReadButtons => some "PANEL_READ_BUTTONS"
  | .panelWriteLights v => some ("PANEL_WRITE_LIGHTS " ++ hexByte v)
  | .init8bit => none
  | .set4bit => none
  | .functionSet => none
  | .displayOnCursorOff => none
  | .entryModeInc => none
  | .clearDisplay => none
  | .returnHome => none
  | .setDdramAddr _ => none
  | .writeData _ => none
  | .portbByte _ _ _ => none

/-- The expansion of a pseudo-instruction (R74, R195). -/
def pseudoExpansion : Pseudo → List Instr
  | .boot => [.expConfig .lcd, .expConfig .panel, .lcdInit]
  | .lcdLine line text => [.lcdSetLine line, .lcdPrint text]

/-- The bytes of a sequence of instructions on the serial host link (R73). -/
def serialProgram (cfg : Config) (is : List Instr) : List Byte :=
  is.flatMap fun i => (requestOf cfg i).serial

end Sys2Proof
end

