-- ==== Sys2Proof/Machine/Observe.lean ====
section
/-!
DEFINITION. What an observer reads from the state and the trace, and the block itself never reads: the levels of the LCD device's
port B (10_state.md R31), the nibbles the display controller latches (30_encoding.md R68), the bytes and the codes they form (R69),
its interface mode and its nibble phase (10_state.md R32), and the lower bound on elapsed time (70_reset_and_hazards.md R210).
-/
namespace Sys2Proof.Machine

/-- A latched nibble with its selector (R68). -/
structure Latch where
  sel : Selector
  n : Nibble
  deriving DecidableEq, Repr

/-- The controller's interface mode (R32). -/
inductive InterfaceMode where
  | eightBit
  | fourBit
  deriving DecidableEq, Repr

/-- The half of a byte the controller takes the next nibble for, in 4-bit mode (R32). -/
inductive NibblePhase where
  | high
  | low
  deriving DecidableEq, Repr

/-- The levels on the LCD device's port-B pins; none while they are unknown (R31). DESIGN CHOICE, notes/assumptions/19.md: a later
BUS_WRITE to another register of the LCD device, whose effect R49 leaves unspecified, does not make them unknown. DESIGN CHOICE, notes/assumptions/23.md: nor does a fault other than a
failed write to this register, though R167 makes no claim about the devices after any fault. -/
def State.lcdLevels (s : State) : Option Byte :=
  if s.configuredLcd then s.shadowAt .lcd s.cfg.regDataB else none

/-- The level of the enable line (R31). -/
def State.enableLevel (s : State) : Option Bool :=
  s.lcdLevels.map fun v => decide (v &&& s.cfg.enMask ≠ 0)

/-- The values of the successful writes to the LCD device's port-B data register, in trace order (R68). -/
def lcdWrites (cfg : Config) (trace : List Event) : List Byte :=
  trace.filterMap fun e =>
    match e with
    | .wr d reg v ok => if d = .lcd ∧ reg = cfg.regDataB ∧ ok = true then some v else none
    | .req _ _ => none
    | .rd _ _ _ => none
    | .dl _ => none
    | .done _ => none
    | .flt _ => none
    | .fltFaulted => none

/-- What is open at the first write to the display's port of a trace (R68, k = 1): the level before it, which decides whether that
write latches, and what it latches if it does, any nibble with any selector (R191, R203; 93_implementation_defined.md I11, I13). FREE
VALUES, notes/assumptions/21.md: whoever uses them quantifies over them. -/
structure FirstDraw where
  level : Byte
  latch : Latch
  deriving DecidableEq, Repr

/-- From the level `prev` to the level `v` the enable line falls (R68). -/
abbrev EnableFalls (cfg : Config) (prev v : Byte) : Prop :=
  v &&& cfg.enMask = 0 ∧ prev &&& cfg.enMask ≠ 0

/-- The nibbles latched by a sequence of levels after the known level `prev`: one at each fall of enable, the one the level
itself carries (R68, k > 1). -/
def latchesFrom (cfg : Config) : Byte → List Byte → List Latch
  | _, [] => []
  | prev, v :: vs =>
    (if EnableFalls cfg prev v then [{ sel := selectorOf v, n := unremap v }] else [])
      ++ latchesFrom cfg v vs

/-- The latch observation of a trace (R68). The latch at the first write is a draw: whether it happens is the drawn level's, what
it latches the drawn latch's (R68, R203). A write to any other register counts for nothing here, as R68 has it
(notes/assumptions/19.md). -/
def latched (cfg : Config) (d : FirstDraw) (trace : List Event) : List Latch :=
  match lcdWrites cfg trace with
  | [] => []
  | v :: vs => (if EnableFalls cfg d.level v then [d.latch] else []) ++ latchesFrom cfg v vs

/-- The byte two consecutive nibbles form, high half first, whatever byte it is and whatever their selectors are (R69, R72). -/
def pairByte (hi lo : Latch) : Byte := hi.n ++ lo.n

/-- Consecutive pairs of a latched stream, as bytes; a last odd nibble forms none yet (R69). -/
def pairBytes : List Latch → List Byte
  | hi :: lo :: rest => pairByte hi lo :: pairBytes rest
  | _ => []

/-- The code of a pair (R69, R70): a byte of R70, or a character. DESIGN CHOICE, notes/assumptions/20.md: a byte outside R70, and a
pair of unequal selectors, is no code; its byte is `pairByte`'s all the same. -/
def pairCode (hi lo : Latch) : Decoded :=
  if hi.sel = lo.sel then
    match hi.sel with
    | .instr => decodeLcdInstr (pairByte hi lo)
    | .data => .ok (.writeData (pairByte hi lo))
  else .illegal .notADisplayCode

/-- The code of a lone instruction nibble (R69, R70). DESIGN CHOICE, notes/assumptions/20.md: another nibble, or one sent as character
data, is no code. -/
def singleCode (x : Latch) : Decoded :=
  match x.sel with
  | .instr => decodeLcdNibble x.n
  | .data => .illegal .notADisplayCode

/-- Consecutive pairs of a latched stream, as codes; a last odd nibble forms none (R69). -/
def pairCodes : List Latch → List Decoded
  | hi :: lo :: rest => pairCode hi lo :: pairCodes rest
  | _ => []

/-- The codes a reader forms from the nibbles latched since an LCD_INIT began: four single nibbles, then pairs (R69). -/
def displayCodes (ls : List Latch) : List Decoded :=
  (ls.take 4).map singleCode ++ pairCodes (ls.drop 4)

/-- Whether the events after a request show its first micro-op, a write, being performed. After a refusal the next event is `Flt`, and
after an overlap that abandons the request before its first micro-op it is the overlapping `Req` (R166, R168, R51). -/
def beginsWithWrite : List Event → Bool
  | .wr _ _ _ _ :: _ => true
  | _ => false

/-- The events since the last LCD_INIT began, its first write the first of them; none before the first did. A submitted word 0x800000
whose first write is not performed, a refused one above all, begins nothing. -/
def sinceInit : List Event → Option (List Event)
  | [] => none
  | e :: es =>
    match sinceInit es with
    | some later => some later
    | none => if e = .req 0x800000 [] ∧ beginsWithWrite es = true then some es else none

/-- The bytes a reader forms from the nibbles latched since the last LCD_INIT began: consecutive pairs, starting at the fifth
nibble (R69); none before the first LCD_INIT. An LCD_INIT's first write sets enable, so the draw latches nothing there. -/
def bytesSinceInit (cfg : Config) (d : FirstDraw) (trace : List Event) : Option (List Byte) :=
  (sinceInit trace).map fun es => pairBytes ((latched cfg d es).drop 4)

/-- Whether an event is a failed write to the LCD device's port-B data register, after which the levels and what was latched are
unknown (R167). -/
def losesLevels (cfg : Config) : Event → Bool
  | .wr d reg _ ok => d == .lcd && reg == cfg.regDataB && !ok
  | .req _ _ => false
  | .rd _ _ _ => false
  | .dl _ => false
  | .done _ => false
  | .flt _ => false
  | .fltFaulted => false

/-- How many nibbles have been latched since the last LCD_INIT began, where the controller is known to be in 4-bit mode: the four
single nibbles have been latched, the fourth of which is the source's "enter 4-bit mode" (R69, R70, R124), and no write to the display
has failed since (R167). None where the mode is not known. -/
def fourBitNibbles (cfg : Config) (d : FirstDraw) (trace : List Event) : Option Nat :=
  match sinceInit trace with
  | none => none
  | some es =>
    let n := (latched cfg d es).length
    if es.any (losesLevels cfg) ∨ n < 4 then none else some n

/-- The controller's interface mode (R32): 4-bit once an LCD_INIT has put it there, else the drawn mode `m`, any of the two (R191,
93_implementation_defined.md I12): whoever uses this quantifies over `m`. DEDUCED, notes/assumptions/24.md; DESIGN CHOICE,
notes/assumptions/19.md and 23.md. -/
def interfaceMode (cfg : Config) (d : FirstDraw) (m : InterfaceMode) (trace : List Event) : InterfaceMode :=
  match fourBitNibbles cfg d trace with
  | some _ => .fourBit
  | none => m

/-- The controller's nibble phase in 4-bit mode (R32, R69, R204, R205): where that mode is known, high at a byte boundary. Before that
(R191), and once a write to the display has failed (R167), it is unknown. DEDUCED, notes/assumptions/7.md. DESIGN CHOICE,
notes/assumptions/19.md: a BUS_WRITE to another register of the LCD device, whose effect R49 leaves unspecified, does not make it
unknown; and notes/assumptions/23.md: nor does a fault other than a failed write to the display's port, though R167 makes no claim about
the devices after any fault. -/
def nibblePhase (cfg : Config) (d : FirstDraw) (trace : List Event) : Option NibblePhase :=
  (fourBitNibbles cfg d trace).map fun n => if n % 2 = 0 then .high else .low

/-- The milliseconds that have passed at least, from the first event of a trace to its last (R210). -/
def minElapsedMs : List Event → Nat
  | [] => 0
  | .dl ms :: es => ms + minElapsedMs es
  | .req _ _ :: es => minElapsedMs es
  | .wr _ _ _ _ :: es => minElapsedMs es
  | .rd _ _ _ :: es => minElapsedMs es
  | .done _ :: es => minElapsedMs es
  | .flt _ :: es => minElapsedMs es
  | .fltFaulted :: es => minElapsedMs es

/-- The byte a host writes to change the lights in mask `m` only, from its own record `old` of them (43_button_panel.md R154). The
block itself merges nothing. -/
def mergeLights (old m bits : Byte) : Byte :=
  (old &&& ~~~m) ||| (bits &&& m)

/-- The code of a cause (R160). -/
def Cause.code : Cause → Nat
  | .illegalRequest => 1
  | .notConfigured => 2
  | .notInitialized => 3
  | .reconfigure => 4
  | .overlap => 5
  | .fatalIO => 6

end Sys2Proof.Machine
end

