-- ==== Sys2Proof/Safety.lean ====
section
/-!
DEFINITION. The terms claims are stated in: the invariant of the machine, what a safe and a final state are, what the trace says of the
shadow, and what a whole request does when no transaction fails.
-/
namespace Sys2Proof.Machine

/-! ### The invariant -/

/-- While a request is in progress, its precondition holds (R162), `uops` is its expansion and `upc` points into it (R24). -/
def State.inProgress (s : State) : Bool :=
  match s.req with
  | none => false
  | some r =>
    match decodeRequest r with
    | .ok i => (precondition s i).isNone && decide (s.uops = expand s.cfg i) && decide (s.upc < s.uops.length)
    | .illegal _ => false

/-- While none is, the sequencer is cleared (R20, R24). -/
def State.atRest (s : State) : Bool :=
  s.req.isNone && s.uops.isEmpty && s.upc == 0

/-- The invariant: legal parameters (R7), canonical shadow, a sequencer in or out of a request (R24), no request in progress
after a fault (R166), and `lcd_ready` only with the LCD device configured (R110). -/
abbrev Inv (s : State) : Prop :=
  s.cfg.wf ∧ s.shadow.wf ∧ (if s.busy then s.inProgress = true else s.atRest = true) ∧
    (s.fault.isSome = true → s.busy = false) ∧ (s.lcdReady = true → s.configuredLcd = true)

/-- A state a run may end in: idle, no fault, no whole request on the link and no turn scripted (R212). -/
abbrev Final (s : State) : Prop :=
  s.busy = false ∧ s.fault = none ∧ takeRequest s.link = none ∧ s.turns = []

/-! ### The shadow and the trace -/

/-- What one event makes of the last value written to `(d, reg)`: a successful write there sets it, a failed one leaves nothing, no
other event matters (R30). -/
def writtenAfter (d : Device) (reg : Byte) (before : Option Byte) : Event → Option Byte
  | .wr d' reg' v ok => if d' = d ∧ reg' = reg then (if ok then some v else none) else before
  | .req _ _ => before
  | .rd _ _ _ => before
  | .dl _ => before
  | .done _ => before
  | .flt _ => before
  | .fltFaulted => before

/-- The last value the trace shows written to `(d, reg)`; none where there is none or the last write failed (R20, R30). -/
def lastWritten (trace : List Event) (d : Device) (reg : Byte) : Option Byte :=
  trace.foldl (writtenAfter d reg) none

/-- `shadow` is what the trace says was written (R20, R30). -/
def ShadowFromTrace (s : State) : Prop :=
  ∀ d reg, s.shadowAt d reg = lastWritten s.trace d reg

/-! ### What a request does when no transaction fails -/

/-- How many answers of the bus a list of micro-ops asks for. -/
def busCount : List MicroOp → Nat
  | [] => 0
  | .busWrite _ _ _ :: us => busCount us + 1
  | .busRead _ _ :: us => busCount us + 1
  | .delay _ :: us => busCount us

/-- The next `n` answers of the bus, scripted or free (R95). -/
def nextAnswers : Nat → State → List BusAnswer
  | 0, _ => []
  | n + 1, s => s.nextAnswer :: nextAnswers n s.takeAnswer

/-- The events of a list of micro-ops whose transactions all succeed with the given answers (R91, R94, R52). -/
def uopEvents : List MicroOp → List BusAnswer → List Event
  | [], _ => []
  | .delay ms :: us, as => .dl ms :: uopEvents us as
  | .busWrite d reg v :: us, as => .wr d reg v true :: uopEvents us as.tail
  | .busRead d reg :: us, as => .rd d reg (as.head?.map BusAnswer.byte) :: uopEvents us as.tail

/-- The shadow after a list of micro-ops whose transactions all succeed (R30). -/
def uopShadow : List MicroOp → Memory → Memory
  | [], m => m
  | .busWrite d reg v :: us, m => uopShadow us (m.set (location d reg) v)
  | .busRead _ _ :: us, m => uopShadow us m
  | .delay _ :: us, m => uopShadow us m

/-- The response of an instruction: the byte read for the two reading requests, none for every other (R35). -/
def responseOf (i : Instr) (as : List BusAnswer) : Option Byte :=
  match i with
  | .busRead _ _ => as.head?.map BusAnswer.byte
  | .panelReadButtons => as.head?.map BusAnswer.byte
  | .busWrite _ _ _ => none
  | .expConfig _ => none
  | .lcdNibble _ _ => none
  | .lcdInstrNibble _ => none
  | .lcdInstrByte _ => none
  | .lcdChar _ => none
  | .lcdInit => none
  | .lcdClearHome => none
  | .lcdSetLine _ => none
  | .lcdPrint _ => none
  | .panelWriteLights _ => none
  | .init8bit => none
  | .set4bit => none
  | .functionSet => none
  | .displayOnCursorOff => none
  | .entryModeInc => none
  | .clearDisplay => none
  | .returnHome => none
  | .setDdramAddr _ => none
  | .writeData _ => none
  | .portbByte _ _ _ => none

/-- What a state keeps of another beside the trace, the sequencer (`busy`, `req`, `uops`, `upc`) and the fault: the flags, the
shadow and the whole environment. -/
abbrev SameBut (s t : State) : Prop :=
  t.configuredLcd = s.configuredLcd ∧ t.configuredPanel = s.configuredPanel ∧ t.lcdReady = s.lcdReady ∧
    t.shadow = s.shadow ∧ t.cfg = s.cfg ∧ t.link = s.link ∧ t.turns = s.turns ∧ t.answers = s.answers ∧
    t.draws = s.draws

/-- The block is ready for a request: idle and not faulted (R51, R162). -/
abbrev Ready (s : State) : Prop :=
  s.busy = false ∧ s.fault = none

/-- The state right after the acceptance of request `r` with the non-empty expansion `us` (R24, R27). -/
def accepted (s : State) (r : Request) (us : List MicroOp) : State :=
  { s with busy := true, req := some r, uops := us, upc := 0, trace := s.trace ++ [.req r.word r.payload] }

/-- The state after a request refused with a fault of causes 1 to 4 (R166, R162). -/
def rejected (s : State) (r : Request) (c : Cause) : State :=
  { s with fault := some { cause := c, reqWord := r.word, upc := 0, txn := none }
           busy := false, req := none, uops := [], upc := 0
           trace := s.trace ++ [.req r.word r.payload, .flt c] }

end Sys2Proof.Machine
end

