-- ==== Sys2Proof/Certificates/Slice0/Obligations.lean ====
section
/-!
DEFINITION. The statements about the model, for the provers. Each docstring says which rule of spec/ it formalises, or that it is derived.
-/

open Sys2Proof Sys2Proof.Machine

/-! ### Encodings -/

/-- Decoding the code of a well-formed instruction gives it back, for every legal configuration and every operand (R61 to R63, R66,
R70, R71, R73). -/
def Obligations.DecodeOfEncode : Prop :=
  ∀ (cfg : Config) (i : Instr), cfg.wf → WellFormed i = true → decode cfg (encode cfg i) = .ok i

/-- Each code has one meaning: whatever decodes to an instruction is that instruction's own code, and the instruction is
well-formed. -/
def Obligations.EncodeOfDecode : Prop :=
  ∀ (cfg : Config) (c : Code) (i : Instr), decode cfg c = .ok i → encode cfg i = c ∧ WellFormed i = true

/-- R62: a word selects a row of the opcode table exactly when `w & mask = match`; a request with a payload of the length its word
tells decodes to an instruction of that row exactly then. -/
def Obligations.RequestWordSelectsRow : Prop :=
  ∀ (r : Request) (m k : ReqWord), r.payload.length = payloadLength r.word →
    ((∃ i, decodeRequest r = .ok i ∧ requestRow i = some (m, k)) ↔ ((m, k) ∈ requestRows ∧ r.word &&& k = m))

/-- R62: the rows do not overlap. -/
def Obligations.RequestRowsDisjoint : Prop :=
  ∀ (w m k m' k' : ReqWord), (m, k) ∈ requestRows → (m', k') ∈ requestRows → w &&& k = m → w &&& k' = m' →
    (m, k) = (m', k')

/-- R63: the operands are the fields of the word, for every word of each row, and nothing else. -/
def Obligations.OperandsComeFromTheFields : Prop :=
  ∀ (w : ReqWord) (p : List Byte), p.length = payloadLength w →
    let dev : Device := if w.getLsbD 19 then .lcd else .panel
    let a : Byte := w.extractLsb' 8 8
    let is := fun i => decodeRequest ⟨w, p⟩ = .ok i
    (w &&& 0xF70000 = 0x100000 → is (.busWrite dev a (w.extractLsb' 0 8))) ∧
    (w &&& 0xF700FF = 0x200000 → is (.busRead dev a)) ∧
    (w &&& 0xF7FFFF = 0x300000 → is (.expConfig dev)) ∧
    (w &&& 0xFFF07F = 0x400000 → (w.extractLsb' 0 8 = 0x00#8 ∨ w.extractLsb' 0 8 = 0x80#8) ∧
      is (.lcdNibble (if w.getLsbD 7 then .data else .instr) (w.extractLsb' 8 4))) ∧
    (w &&& 0xFFF0FF = 0x500000 → is (.lcdInstrNibble (w.extractLsb' 8 4))) ∧
    (w &&& 0xFF00FF = 0x600000 → is (.lcdInstrByte a)) ∧
    (w &&& 0xFF00FF = 0x700000 → is (.lcdChar a)) ∧
    (w &&& 0xFFFFFF = 0x800000 → is .lcdInit) ∧
    (w &&& 0xFFFFFF = 0x900000 → is .lcdClearHome) ∧
    (w &&& 0xFF00FF = 0xA00000 → is (.lcdSetLine a)) ∧
    (w &&& 0xFF00FF = 0xB00000 → p.length = a.toNat ∧ is (.lcdPrint p)) ∧
    (w &&& 0xFFFFFF = 0xC00000 → is .panelReadButtons) ∧
    (w &&& 0xFF00FF = 0xD00000 → is (.panelWriteLights a))

/-- R76: the example encodings decode to the requests they stand for, and the illegal examples to none. -/
def Obligations.ExampleWordsDecode : Prop :=
  (decodeRequest ⟨0x1813AA, []⟩ = .ok (.busWrite .lcd 0x13 0xAA) ∧ decodeRequest ⟨0x201200, []⟩ = .ok (.busRead .panel 0x12) ∧
    decodeRequest ⟨0x380000, []⟩ = .ok (.expConfig .lcd) ∧ decodeRequest ⟨0x300000, []⟩ = .ok (.expConfig .panel) ∧
    decodeRequest ⟨0x400480, []⟩ = .ok (.lcdNibble .data 0x4) ∧ decodeRequest ⟨0x500300, []⟩ = .ok (.lcdInstrNibble 0x3) ∧
    decodeRequest ⟨0x602800, []⟩ = .ok (.lcdInstrByte 0x28) ∧ decodeRequest ⟨0x704100, []⟩ = .ok (.lcdChar 0x41) ∧
    decodeRequest ⟨0x800000, []⟩ = .ok .lcdInit ∧ decodeRequest ⟨0x900000, []⟩ = .ok .lcdClearHome ∧
    decodeRequest ⟨0xA00100, []⟩ = .ok (.lcdSetLine 1) ∧ decodeRequest ⟨0xB00200, [0x48, 0x49]⟩ = .ok (.lcdPrint [0x48, 0x49]) ∧
    decodeRequest ⟨0xC00000, []⟩ = .ok .panelReadButtons ∧ decodeRequest ⟨0xD01100, []⟩ = .ok (.panelWriteLights 0x11)) ∧
  ∀ w : ReqWord, w ∈ ([0x000000, 0xE00000, 0x880000, 0x400401, 0x501300, 0x210000] : List ReqWord) →
    ∀ i, decodeRequest ⟨w, []⟩ ≠ .ok i

/-- R73: a request is its 24-bit word, the most significant byte first, and after an LCD_PRINT word exactly N = A payload bytes; its
length is told by the OP field alone. A reader of the link tells it from the bytes after it, and takes nothing while it is not
there whole. -/
def Obligations.SerialLinkFramesRequests : Prop :=
  (∀ w : ReqWord, payloadLength w = if w.extractLsb' 20 4 = 0xB#4 then (w.extractLsb' 8 8).toNat else 0) ∧
  ∀ (r : Request) (rest : List Byte), r.payload.length = payloadLength r.word →
    r.serial = [r.word.extractLsb' 16 8, r.word.extractLsb' 8 8, r.word.extractLsb' 0 8] ++ r.payload ∧
      r.serial.length = 3 + payloadLength r.word ∧ takeRequest (r.serial ++ rest) = some (r, rest) ∧
      ∀ n, n < r.serial.length → takeRequest (r.serial.take n) = none

/-- R64, R65: the remap moves bit 0 to 4, 1 to 3, 2 to 2 and 3 to 1, which is the reversed nibble shifted left by one; its table; its
image is the bytes whose bits 7, 6, 5 and 0 are zero; `unremap` is its left inverse; it is not its own inverse, while the
reversal is. -/
def Obligations.RemapFollowsTheWiring : Prop :=
  (∀ n : Nibble, (remap n).getLsbD 4 = n.getLsbD 0 ∧ (remap n).getLsbD 3 = n.getLsbD 1 ∧ (remap n).getLsbD 2 = n.getLsbD 2 ∧
    (remap n).getLsbD 1 = n.getLsbD 3 ∧ remap n = n.reverse.setWidth 8 <<< 1 ∧ n.reverse.reverse = n ∧ unremap (remap n) = n) ∧
  ([0x0, 0x1, 0x2, 0x3, 0x4, 0x5, 0x6, 0x7, 0x8, 0x9, 0xA, 0xB, 0xC, 0xD, 0xE, 0xF] : List Nibble).map remap =
    [0x00, 0x10, 0x08, 0x18, 0x04, 0x14, 0x0C, 0x1C, 0x02, 0x12, 0x0A, 0x1A, 0x06, 0x16, 0x0E, 0x1E] ∧
  (∀ b : Byte, (∃ n, remap n = b) ↔
    (b.getLsbD 7 = false ∧ b.getLsbD 6 = false ∧ b.getLsbD 5 = false ∧ b.getLsbD 0 = false)) ∧
  (∀ b : Byte, (unremap b).getLsbD 0 = b.getLsbD 4 ∧ (unremap b).getLsbD 1 = b.getLsbD 3 ∧
    (unremap b).getLsbD 2 = b.getLsbD 2 ∧ (unremap b).getLsbD 3 = b.getLsbD 1) ∧
  ∃ n : Nibble, loNibble (remap (loNibble (remap n))) ≠ n

/-- R66: the port-B byte is the remapped nibble, the selector and the enable bit; each is read back from it whatever the legal enable
bit, and every other bit of it is 0. -/
def Obligations.PortBByteFields : Prop :=
  ∀ (cfg : Config) (sel : Selector) (n : Nibble) (en : Bool), cfg.wf →
    portb cfg sel n en = (remap n ||| (match sel with | .instr => 0x00 | .data => 0x80) ||| (if en then cfg.enMask else 0x00)) ∧
      selectorOf (portb cfg sel n en) = sel ∧ unremap (portb cfg sel n en) = n ∧
      (portb cfg sel n en &&& cfg.enMask ≠ 0 ↔ en = true) ∧ portb cfg sel n en &&& ~~~(0x9E ||| cfg.enMask) = 0

/-- R71: the set-DDRAM byte of an address is 0x80 OR the address; for the four lines it is 0x80, 0xC0, 0x94 and 0xD4. -/
def Obligations.DdramByteSetsBitSeven : Prop :=
  (∀ a : DdramAddr, ddramByte a = 0x80 ||| a.setWidth 8 ∧ hiNibble (ddramByte a) = 0x8 ||| (a.extractLsb' 4 3).setWidth 4 ∧
    loNibble (ddramByte a) = a.extractLsb' 0 4) ∧
  ddramByte 0 = 0x80 ∧ ddramByte 64 = 0xC0 ∧ ddramByte 20 = 0x94 ∧ ddramByte 84 = 0xD4

/-! ### What each request is accepted as -/

/-- R90, R93: a ready block accepts BUS_WRITE and BUS_READ without a precondition, with the one transaction as expansion. -/
def Obligations.BusRequestsAccepted : Prop :=
  ∀ (s : State) (d : Device) (reg v : Byte), Ready s →
    exec (.busWrite d reg v) s = .next (accepted s (requestOf s.cfg (.busWrite d reg v)) [.busWrite d reg v]) ∧
    exec (.busRead d reg) s = .next (accepted s (requestOf s.cfg (.busRead d reg)) [.busRead d reg])

/-- R100: EXP_CONFIG of a device that is not configured is accepted with the five writes in order. -/
def Obligations.ExpConfigAccepted : Prop :=
  ∀ (s : State) (d : Device), Ready s → s.configured d = false →
    exec (.expConfig d) s = .next (accepted s (requestOf s.cfg (.expConfig d))
      [.busWrite d s.cfg.regDirA s.cfg.vDirIn, .busWrite d s.cfg.regPolA s.cfg.vPolInv, .busWrite d s.cfg.regPupA s.cfg.vPupOn,
       .busWrite d s.cfg.regDirB s.cfg.vDirOut, .busWrite d s.cfg.regDataB 0x00])

/-- R100: EXP_CONFIG of a configured device raises `Reconfigure`, with no bus activity. -/
def Obligations.ExpConfigReconfigures : Prop :=
  ∀ (s : State) (d : Device), Ready s → s.configured d = true →
    exec (.expConfig d) s = .next (rejected s (requestOf s.cfg (.expConfig d)) .reconfigure)

/-- R112, R114: LCD_NIBBLE and LCD_INSTR_NIBBLE are accepted as two writes of the port-B data register, the remapped nibble with
the selector and the enable bit, then the same without the enable bit. -/
def Obligations.NibbleRequestsAccepted : Prop :=
  ∀ (s : State) (sel : Selector) (n : Nibble), Ready s → s.lcdReady = true →
    exec (.lcdNibble sel n) s = .next (accepted s (requestOf s.cfg (.lcdNibble sel n))
      [.busWrite .lcd s.cfg.regDataB (remap n ||| sel.byte ||| s.cfg.enMask), .busWrite .lcd s.cfg.regDataB (remap n ||| sel.byte)]) ∧
    exec (.lcdInstrNibble n) s = .next (accepted s (requestOf s.cfg (.lcdInstrNibble n))
      [.busWrite .lcd s.cfg.regDataB (remap n ||| 0x00 ||| s.cfg.enMask), .busWrite .lcd s.cfg.regDataB (remap n ||| 0x00)])

/-- R116: LCD_INSTR_BYTE is accepted as the high nibble, then the low nibble, each as an instruction nibble, and no delay. -/
def Obligations.InstrByteAccepted : Prop :=
  ∀ (s : State) (b : Byte), Ready s → s.lcdReady = true →
    exec (.lcdInstrByte b) s = .next (accepted s (requestOf s.cfg (.lcdInstrByte b))
      (xfer s.cfg .instr (b.extractLsb' 4 4) ++ xfer s.cfg .instr (b.extractLsb' 0 4)))

/-- R120: LCD_CHAR is accepted as the high nibble, then the low nibble, each as character data, then the settle delay. -/
def Obligations.CharAccepted : Prop :=
  ∀ (s : State) (c : Byte), Ready s → s.lcdReady = true →
    exec (.lcdChar c) s = .next (accepted s (requestOf s.cfg (.lcdChar c))
      (xfer s.cfg .data (c.extractLsb' 4 4) ++ xfer s.cfg .data (c.extractLsb' 0 4) ++ [.delay s.cfg.tCharMs]))

/-- R124, R125: LCD_INIT is accepted once the LCD device is configured, as the source's sequence with its one indicated pause
and the final clear the parameter asks for. -/
def Obligations.InitAccepted : Prop :=
  ∀ s : State, Ready s → s.configuredLcd = true →
    exec .lcdInit s = .next (accepted s (requestOf s.cfg .lcdInit)
      (xfer s.cfg .instr 0x3 ++ [.delay s.cfg.tPoweronMs] ++ xfer s.cfg .instr 0x3 ++ xfer s.cfg .instr 0x3
        ++ xfer s.cfg .instr 0x2 ++ instrByte s.cfg 0x28 ++ instrByte s.cfg 0x0C ++ instrByte s.cfg 0x06
        ++ (if s.cfg.initFinalHome then
              instrByte s.cfg 0x01 ++ [.delay s.cfg.tClearMs] ++ instrByte s.cfg 0x02 ++ [.delay s.cfg.tHomeMs]
            else instrByte s.cfg 0x01 ++ [.delay s.cfg.tClearMs])))

/-- R130: LCD_CLEAR_HOME is accepted as clear and its pause, then return home and its pause. -/
def Obligations.ClearHomeAccepted : Prop :=
  ∀ s : State, Ready s → s.lcdReady = true →
    exec .lcdClearHome s = .next (accepted s (requestOf s.cfg .lcdClearHome)
      (instrByte s.cfg 0x01 ++ [.delay s.cfg.tClearMs] ++ instrByte s.cfg 0x02 ++ [.delay s.cfg.tHomeMs]))

/-- R135: the line addresses are 0, 64, 20 and 84, and LCD_SET_LINE of line 0 to 3 is accepted as the instruction byte 0x80, 0xC0,
0x94 or 0xD4. -/
def Obligations.SetLineAccepted : Prop :=
  ([0, 1, 2, 3] : List Byte).map lineAddr = [some 0, some 64, some 20, some 84] ∧
  ∀ (s : State) (line b : Byte), Ready s → s.lcdReady = true →
    (line, b) ∈ ([(0, 0x80), (1, 0xC0), (2, 0x94), (3, 0xD4)] : List (Byte × Byte)) →
    exec (.lcdSetLine line) s = .next (accepted s (requestOf s.cfg (.lcdSetLine line))
      (xfer s.cfg .instr (b.extractLsb' 4 4) ++ xfer s.cfg .instr (b.extractLsb' 0 4)))

/-- R136, R25: LCD_SET_LINE of any other line number, and LCD_PRINT of no character, complete in the step that accepts them: `Req`,
`Done(none)`, nothing else. -/
def Obligations.EmptyRequestsCompleteAtOnce : Prop :=
  ∀ (s : State) (line : Byte), Ready s → s.lcdReady = true → s.atRest = true → 4 ≤ line →
    exec (.lcdSetLine line) s = .next { s with trace := s.trace ++ [.req (requestOf s.cfg (.lcdSetLine line)).word [], .done none] } ∧
    exec (.lcdPrint []) s = .next { s with trace := s.trace ++ [.req 0xB00000 [], .done none] }

/-- R140, R141: LCD_PRINT of any non-empty string is accepted as every one of its characters in order, neither padded nor
truncated, with the extra pause, where the parameter asks for one, between two characters and not after the last. -/
def Obligations.PrintAccepted : Prop :=
  ∀ (s : State) (text : List Byte) (last : Byte), Ready s → s.lcdReady = true →
    exec (.lcdPrint (text ++ [last])) s = .next (accepted s (requestOf s.cfg (.lcdPrint (text ++ [last])))
      (text.flatMap (fun c => charSend s.cfg c ++ (if s.cfg.printExtraMs > 0 then [.delay s.cfg.printExtraMs] else []))
        ++ charSend s.cfg last))

/-- R151, R153: the PANEL requests are accepted once the PANEL device is configured, as one read of its port A and one write of its
port B. -/
def Obligations.PanelRequestsAccepted : Prop :=
  ∀ (s : State) (v : Byte), Ready s → s.configuredPanel = true →
    exec .panelReadButtons s = .next (accepted s (requestOf s.cfg .panelReadButtons) [.busRead .panel s.cfg.regDataA]) ∧
    exec (.panelWriteLights v) s = .next (accepted s (requestOf s.cfg (.panelWriteLights v)) [.busWrite .panel s.cfg.regDataB v])

/-- R70, R71, R120: a display code of the opcode table is accepted as what R70's table says it is sent as, by the request that
sends it. DERIVED: that the code stands for that request is the model's choice (notes/assumptions/3.md). -/
def Obligations.DisplayCodesAccepted : Prop :=
  ∀ (s : State) (a : DdramAddr) (c : Byte), Ready s → s.lcdReady = true →
    exec .init8bit s = .next (accepted s (wordRequest 0x5 .panel 0x03 0) (xfer s.cfg .instr 0x3)) ∧
    exec .set4bit s = .next (accepted s (wordRequest 0x5 .panel 0x02 0) (xfer s.cfg .instr 0x2)) ∧
    exec .functionSet s = .next (accepted s (wordRequest 0x6 .panel 0x28 0) (xfer s.cfg .instr 0x2 ++ xfer s.cfg .instr 0x8)) ∧
    exec .displayOnCursorOff s = .next (accepted s (wordRequest 0x6 .panel 0x0C 0) (xfer s.cfg .instr 0x0 ++ xfer s.cfg .instr 0xC)) ∧
    exec .entryModeInc s = .next (accepted s (wordRequest 0x6 .panel 0x06 0) (xfer s.cfg .instr 0x0 ++ xfer s.cfg .instr 0x6)) ∧
    exec .clearDisplay s = .next (accepted s (wordRequest 0x6 .panel 0x01 0) (xfer s.cfg .instr 0x0 ++ xfer s.cfg .instr 0x1)) ∧
    exec .returnHome s = .next (accepted s (wordRequest 0x6 .panel 0x02 0) (xfer s.cfg .instr 0x0 ++ xfer s.cfg .instr 0x2)) ∧
    exec (.setDdramAddr a) s = .next (accepted s (wordRequest 0x6 .panel (0x80 ||| a.setWidth 8) 0)
      (xfer s.cfg .instr (0x8 ||| (a.extractLsb' 4 3).setWidth 4) ++ xfer s.cfg .instr (a.extractLsb' 0 4))) ∧
    exec (.writeData c) s = .next (accepted s (wordRequest 0x7 .panel c 0)
      (xfer s.cfg .data (c.extractLsb' 4 4) ++ xfer s.cfg .data (c.extractLsb' 0 4) ++ [.delay s.cfg.tCharMs]))

/-- R66, R90: a port-B byte is accepted as one write to the LCD device's port-B data register, by a BUS_WRITE to it. DERIVED: that
the code stands for that request is the model's choice (notes/assumptions/3.md). -/
def Obligations.PortBByteAccepted : Prop :=
  ∀ (s : State) (sel : Selector) (n : Nibble) (en : Bool), Ready s →
    exec (.portbByte sel n en) s = .next (accepted s (wordRequest 0x1 .lcd s.cfg.regDataB (portb s.cfg sel n en))
      [.busWrite .lcd s.cfg.regDataB (portb s.cfg sel n en)])

/-- R110: before LCD_INIT has completed every other LCD request raises `NotInitialized`, whatever its operands, and LCD_INIT raises
`NotConfigured` before the LCD device is configured; no bus activity follows. In a state that meets the invariant an initialized display implies
a configured LCD device. -/
def Obligations.LcdRequestsNeedInitialization : Prop :=
  ∀ (s : State) (sel : Selector) (n : Nibble) (b : Byte) (text : List Byte), Ready s →
    (s.lcdReady = false → ∀ i ∈ [Instr.lcdNibble sel n, .lcdInstrNibble n, .lcdInstrByte b, .lcdChar b, .lcdClearHome,
        .lcdSetLine b, .lcdPrint text], exec i s = .next (rejected s (requestOf s.cfg i) .notInitialized)) ∧
    (s.configuredLcd = false → exec .lcdInit s = .next (rejected s (requestOf s.cfg .lcdInit) .notConfigured)) ∧
    (Inv s → s.lcdReady = true → s.configuredLcd = true)

/-- R150: before the PANEL device is configured its two requests raise `NotConfigured`, whether or not the display is initialized;
no bus activity follows. With it configured they are accepted, whether or not the display is initialized. -/
def Obligations.PanelRequestsNeedConfiguration : Prop :=
  ∀ (s : State) (v : Byte), Ready s → ∀ i ∈ [Instr.panelReadButtons, .panelWriteLights v],
    (s.configuredPanel = false → exec i s = .next (rejected s (requestOf s.cfg i) .notConfigured)) ∧
    (s.configuredPanel = true → exec i s = .next (accepted s (requestOf s.cfg i) (expand s.cfg i)))

/-- R162: the first check that applies decides: a faulted block refuses, a busy one raises `Overlap`, a failed precondition raises
its cause, which is `Reconfigure`, `NotConfigured` or `NotInitialized`, and else the request is accepted, for every
instruction; an illegal word comes between `Overlap` and the precondition. -/
def Obligations.RequestChecksInOrder : Prop :=
  ∀ (s : State) (i : Instr) (r : Request),
    (exec i s =
      (if s.fault.isSome then .next (s.emit (.req (requestOf s.cfg i).word (requestOf s.cfg i).payload) |>.emit .fltFaulted)
       else if s.busy then .next ((s.emit (.req (requestOf s.cfg i).word (requestOf s.cfg i).payload)).raise
          { cause := .overlap, reqWord := (requestOf s.cfg i).word, upc := s.upc, txn := none })
       else match precondition s i with
        | some c => .next (rejected s (requestOf s.cfg i) c)
        | none => .next ((s.emit (.req (requestOf s.cfg i).word (requestOf s.cfg i).payload)).accept (requestOf s.cfg i)
            (expand s.cfg i)))) ∧
    (submitIllegal r s =
      (if s.fault.isSome then s.emit (.req r.word r.payload) |>.emit .fltFaulted
       else if s.busy then (s.emit (.req r.word r.payload)).raise
          { cause := .overlap, reqWord := r.word, upc := s.upc, txn := none }
       else rejected s r .illegalRequest)) ∧
    ∀ c, precondition s i = some c → c ∈ [Cause.reconfigure, .notConfigured, .notInitialized]

/-- R168: a request given to a faulted block, of a legal word or not, appends `Req` and `Flt(Faulted)` and changes nothing else. -/
def Obligations.FaultedBlockRefuses : Prop :=
  ∀ (s : State) (i : Instr) (r : Request), s.fault.isSome = true →
    exec i s = .next { s with trace := s.trace ++ [.req (requestOf s.cfg i).word (requestOf s.cfg i).payload, .fltFaulted] } ∧
    submitIllegal r s = { s with trace := s.trace ++ [.req r.word r.payload, .fltFaulted] }

/-- R51: a request, of a legal word or not, that arrives while the block is busy raises `Overlap`, whose record has the arriving word and the index of the
abandoned request's next micro-op; the request in progress is abandoned with no `Done`. -/
def Obligations.OverlapAbandonsTheRequest : Prop :=
  ∀ (s : State) (i : Instr) (r : Request), s.fault = none → s.busy = true →
    let abandoned := fun q : Request => { s with
      fault := some { cause := .overlap, reqWord := q.word, upc := s.upc, txn := none }
      busy := false, req := none, uops := [], upc := 0
      trace := s.trace ++ [.req q.word q.payload, .flt .overlap] }
    exec i s = .next (abandoned (requestOf s.cfg i)) ∧ submitIllegal r s = abandoned r

/-- The frame of every request at its submission: the flags `configured` and `lcd_ready`, every byte of the shadow and the whole
environment stay; the trace grows; a fault that stood stands. -/
def Obligations.SubmissionFrame : Prop :=
  ∀ (s t : State) (i : Instr), exec i s = .next t →
    SameBut s t ∧ (∀ d reg, t.shadowAt d reg = s.shadowAt d reg) ∧ (∃ es, t.trace = s.trace ++ es) ∧
      (s.fault.isSome = true → t.fault = s.fault)

/-! ### The step -/

/-- A step runs the decoded instruction: at a host turn with a whole request on the link that decodes to an instruction, the step
is that instruction's meaning, with the request taken from the link and the turn used up; where its word is illegal the step is
`submitIllegal`, whose checks RequestChecksInOrder states in R162's order, in every state, a busy or a faulted one included; where
no whole request is there the turn alone is used up. At a block turn the step is the sequencer's. Derived: who moves is the model's own (notes/assumptions/5.md). -/
def Obligations.StepRunsTheDecodedRequest : Prop :=
  (∀ (s : State) (r : Request) (rest : List Byte) (i : Instr), s.mover = .host → takeRequest s.link = some (r, rest) →
    decodeRequest r = .ok i → step s = exec i { s with turns := s.turns.tail, link := rest }) ∧
  (∀ (s : State) (r : Request) (rest : List Byte) (e : DecodeError), s.mover = .host →
    takeRequest s.link = some (r, rest) → decodeRequest r = .illegal e →
    step s = .next (submitIllegal r { s with turns := s.turns.tail, link := rest })) ∧
  (∀ s : State, s.mover = .host → takeRequest s.link = none → step s = .next { s with turns := s.turns.tail }) ∧
  (∀ s : State, s.mover = .block → step s = sequencer { s with turns := s.turns.tail })

/-- R75: a word that selects no row of R62's table, submitted to a ready block, raises `IllegalRequest`: no micro-op runs. -/
def Obligations.IllegalWordsFault : Prop :=
  ∀ (s : State) (r : Request) (rest : List Byte), Ready s → s.mover = .host → takeRequest s.link = some (r, rest) →
    (∀ m k, (m, k) ∈ requestRows → r.word &&& k ≠ m) →
    step s = .next (rejected { s with turns := s.turns.tail, link := rest } r .illegalRequest)

/-- R91: a write micro-op appends `Wr` and sets the shadow where the transport succeeds; where it fails it appends the failed `Wr`,
makes the location `unwritten` and raises `FatalIO` with the transaction, and no micro-op is left to run. No other location
changes. -/
def Obligations.WriteMicroOp : Prop :=
  ∀ (d : Device) (reg v : Byte) (s : State), s.shadow.wf →
    (s.nextAnswer.ok = true → (perform (.busWrite d reg v) s).trace = s.trace ++ [.wr d reg v true] ∧
      (perform (.busWrite d reg v) s).shadowAt d reg = some v ∧ (perform (.busWrite d reg v) s).fault = s.fault) ∧
    (s.nextAnswer.ok = false → (perform (.busWrite d reg v) s).trace = s.trace ++ [.wr d reg v false, .flt .fatalIO] ∧
      (perform (.busWrite d reg v) s).shadowAt d reg = none ∧
      (perform (.busWrite d reg v) s).fault =
        some { cause := .fatalIO, reqWord := s.reqWord, upc := s.upc
               txn := some { kind := .write, dev := d, reg := reg, value := some v } } ∧
      (perform (.busWrite d reg v) s).busy = false ∧ (perform (.busWrite d reg v) s).uops = []) ∧
    ∀ d' reg', ¬(d' = d ∧ reg' = reg) → (perform (.busWrite d reg v) s).shadowAt d' reg' = s.shadowAt d' reg'

/-- R94: a read micro-op appends `Rd` with the byte the bus answers, which is what it returns, or the failed `Rd` and the fault
`FatalIO` with the transaction, after which no micro-op is left to run; it never changes the shadow, and what it reads does not depend on it. -/
def Obligations.ReadMicroOp : Prop :=
  ∀ (d : Device) (reg : Byte) (s : State),
    (s.nextAnswer.ok = true → (perform (.busRead d reg) s).trace = s.trace ++ [.rd d reg (some s.nextAnswer.byte)] ∧
      returned (.busRead d reg) s = some s.nextAnswer.byte ∧ (perform (.busRead d reg) s).fault = s.fault) ∧
    (s.nextAnswer.ok = false → (perform (.busRead d reg) s).trace = s.trace ++ [.rd d reg none, .flt .fatalIO] ∧
      (perform (.busRead d reg) s).fault =
        some { cause := .fatalIO, reqWord := s.reqWord, upc := s.upc
               txn := some { kind := .read, dev := d, reg := reg, value := none } } ∧
      (perform (.busRead d reg) s).busy = false ∧ (perform (.busRead d reg) s).uops = []) ∧
    (perform (.busRead d reg) s).shadow = s.shadow ∧
    ∀ m, ({ s with shadow := m } : State).nextAnswer = s.nextAnswer

/-- R52, R160: a delay micro-op appends `Dl`, asks the bus for nothing, returns no byte and never faults; a step that performs one
goes on to the next micro-op or, after the last, completes the request with `Done(none)`. Derived: that it ends in the step that
performs it is the model's choice (notes/assumptions/6.md). -/
def Obligations.DelayMicroOp : Prop :=
  ∀ (ms : Nat) (s : State),
    perform (.delay ms) s = { s with trace := s.trace ++ [.dl ms] } ∧ returned (.delay ms) s = none ∧
    (s.busy = true → s.fault = none → s.uops[s.upc]? = some (.delay ms) →
      ∃ t, sequencer s = .next t ∧ t.fault = none ∧ t.shadow = s.shadow ∧ t.answers = s.answers ∧ t.draws = s.draws ∧
        (if s.upc + 1 = s.uops.length then t.busy = false ∧ t.trace = s.trace ++ [.dl ms, .done none]
         else t.busy = true ∧ t.upc = s.upc + 1 ∧ t.uops = s.uops ∧ t.trace = s.trace ++ [.dl ms]))

/-- R24: a sequencer step of a busy, unfaulted block performs the micro-op at `upc`, and, where that raised no fault, advances `upc`,
or, after the last one, completes the request with the byte a read returned. -/
def Obligations.SequencerStep : Prop :=
  ∀ (s : State) (u : MicroOp), s.busy = true → s.fault = none → s.uops[s.upc]? = some u →
    ((perform u s).fault.isSome = true → sequencer s = .next (perform u s)) ∧
    ((perform u s).fault = none → s.upc + 1 < s.uops.length → sequencer s = .next { perform u s with upc := s.upc + 1 }) ∧
    ((perform u s).fault = none → s.upc + 1 = s.uops.length →
      sequencer s = .next ({ perform u s with upc := s.upc + 1 }.complete (returned u s)))

/-- The frame of a sequencer step: the parameters, the link and the turns stay; outside the location of the write micro-op that runs,
if one does, every byte of the shadow stays; the trace grows. The flags stay unless the step ends a request, with its `Done`. In an
idle or faulted block everything stays, the fault that stood included. Where the micro-op at `upc` is a delay, or none is
there, the bus's coming answers, the shadow and the fault stay (R52, R160). -/
def Obligations.SequencerFrame : Prop :=
  ∀ (s t : State), sequencer s = .next t →
    t.cfg = s.cfg ∧ t.link = s.link ∧ t.turns = s.turns ∧ (∃ es, t.trace = s.trace ++ es) ∧
      (∀ d reg, (∀ v, s.busy = true → s.uops[s.upc]? ≠ some (.busWrite d reg v)) → t.shadowAt d reg = s.shadowAt d reg) ∧
      ((t.configuredLcd ≠ s.configuredLcd ∨ t.configuredPanel ≠ s.configuredPanel ∨ t.lcdReady ≠ s.lcdReady) →
        s.busy = true ∧ s.fault = none ∧ t.busy = false ∧ t.fault = none ∧ ∃ resp, t.trace.getLast? = some (.done resp)) ∧
      (s.busy = false ∨ s.fault.isSome = true → t = s) ∧
      ((∀ u, s.uops[s.upc]? = some u → ∃ ms, u = .delay ms) →
        t.answers = s.answers ∧ t.draws = s.draws ∧ t.shadow = s.shadow ∧ t.fault = s.fault)

/-- R101: when the fifth write of EXP_CONFIG succeeds, the device is configured and the request completes with `Done(none)`; when any
of its writes fails, the device is not configured and the block is faulted, and every later step but a reset leaves both
so. -/
def Obligations.ExpConfigCompletes : Prop :=
  ∀ (s : State) (d : Device), Inv s → s.busy = true → s.req = some (requestOf s.cfg (.expConfig d)) →
    (s.upc = 4 → s.nextAnswer.ok = true →
      ∃ t, sequencer s = .next t ∧ t.configured d = true ∧ t.busy = false ∧ t.fault = none ∧ t.lcdReady = s.lcdReady ∧
        t.trace = s.trace ++ [.wr d s.cfg.regDataB 0x00 true, .done none]) ∧
    (s.nextAnswer.ok = false →
      ∃ t, sequencer s = .next t ∧ t.configured d = false ∧ t.fault.isSome = true) ∧
    ∀ u v, u.fault.isSome = true → u.configured d = false → u.mover ≠ .reset → step u = .next v →
      v.fault = u.fault ∧ v.configured d = false

/-- R126: when the last micro-op of LCD_INIT completes, `lcd_ready` is set and the request completes with `Done(none)`. -/
def Obligations.InitCompletes : Prop :=
  ∀ s : State, Inv s → s.busy = true → s.req = some (requestOf s.cfg .lcdInit) → s.upc + 1 = s.uops.length →
    ∃ t, sequencer s = .next t ∧ t.lcdReady = true ∧ t.busy = false ∧ t.fault = none ∧
      t.trace = s.trace ++ [.dl (if s.cfg.initFinalHome then s.cfg.tHomeMs else s.cfg.tClearMs), .done none]

/-- R190: reset puts every field of the block's record to its reset value (R33), from every state, and asks the bus for nothing; no
other step clears `fault`, `configured[d]` or `lcd_ready`. Derived: that a reset leaves the parameters, the host's link, the remaining
turns and the bus's coming answers as they are is the model's choice (notes/assumptions/9.md), and so is the turn that resets
(notes/assumptions/5.md). -/
def Obligations.ResetClearsTheBlock : Prop :=
  (∀ s t : State, s.mover ≠ .reset → step s = .next t →
    (s.fault.isSome = true → t.fault = s.fault) ∧ (∀ d, s.configured d = true → t.configured d = true) ∧
      (s.lcdReady = true → t.lcdReady = true)) ∧
  ∀ s : State, s.mover = .reset →
    step s = .next { s with
      configuredLcd := false, configuredPanel := false, lcdReady := false, fault := none, busy := false, req := none
      uops := [], upc := 0, shadow := [], trace := [], turns := s.turns.tail }

/-- R33: the reset values of all block state. -/
def Obligations.ResetState : Prop :=
  State.reset.configured .lcd = false ∧ State.reset.configured .panel = false ∧ State.reset.lcdReady = false ∧
    State.reset.fault = none ∧ State.reset.busy = false ∧ State.reset.req = none ∧ State.reset.uops = [] ∧
    State.reset.upc = 0 ∧ (∀ d reg, State.reset.shadowAt d reg = none) ∧ State.reset.trace = []

/-- In a state a run may end in, a step does nothing: the block waits for the host. Reset leaves the block in such a state. Derived:
R192, R212, and the model's host link (notes/assumptions/5.md). -/
def Obligations.FinalStatesWait : Prop :=
  (∀ s : State, Final s → step s = .next s) ∧ Final State.reset

/-! ### The whole machine -/

/-- Every step keeps the invariant. -/
def Obligations.StepKeepsTheInvariant : Prop :=
  ∀ s t : State, Inv s → step s = .next t → Inv t

/-- The invariant holds at reset, whatever the installed parameters are. -/
def Obligations.ResetMeetsTheInvariant : Prop :=
  Inv State.reset

/-- From every state that meets the invariant there is a next state: no step is stuck or refused. -/
def Obligations.InvariantStatesNeverStop : Prop :=
  ∀ s : State, Inv s → ∃ t, step s = .next t

/-- R166, R168: the faulted state is sticky: no step but a reset changes the fault record. -/
def Obligations.FaultIsSticky : Prop :=
  ∀ (s t : State) (f : FaultRecord), s.fault = some f → s.mover ≠ .reset → step s = .next t → t.fault = some f

/-- R22, R23, R34: the flags change only when a request completes: where a step that is no reset raises `configured[d]` or
`lcd_ready`, a request was in progress, it decodes to EXP_CONFIG of that device or to LCD_INIT, and the step ends with its
`Done(none)`; and no such step clears one. -/
def Obligations.FlagsChangeOnlyOnCompletion : Prop :=
  ∀ s t : State, Inv s → s.mover ≠ .reset → step s = .next t →
    (∀ d, t.configured d ≠ s.configured d → t.configured d = true ∧
      ∃ r, s.req = some r ∧ decodeRequest r = .ok (.expConfig d) ∧ t.trace.getLast? = some (.done none)) ∧
    (t.lcdReady ≠ s.lcdReady → t.lcdReady = true ∧
      ∃ r, s.req = some r ∧ decodeRequest r = .ok .lcdInit ∧ t.trace.getLast? = some (.done none))

/-- R27: the block only appends to the trace and never reads it: a step that is no reset appends the same events and does the same
whatever the trace was. -/
def Obligations.TraceOnlyAppended : Prop :=
  ∀ s t : State, s.mover ≠ .reset → step s = .next t →
    ∃ es, t.trace = s.trace ++ es ∧ ∀ tr, step { s with trace := tr } = .next { t with trace := tr ++ es }

/-- R30, R94: the shadow is bookkeeping only: what a step does beside the shadow does not depend on it. -/
def Obligations.ShadowNeverRead : Prop :=
  ∀ (s t : State) (m : Memory), step s = .next t →
    ∃ m', step { s with shadow := m } = .next { t with shadow := m' }

/-- R20, R30: in every reachable state the shadow holds for each register the last value the trace shows written to it, and nothing
where the last write failed: every step keeps this. -/
def Obligations.ShadowAgreesWithTheTrace : Prop :=
  ∀ s t : State, Inv s → ShadowFromTrace s → step s = .next t → ShadowFromTrace t

/-- The shadow agrees with the trace at reset. -/
def Obligations.ShadowAgreesAtReset : Prop :=
  ShadowFromTrace State.reset

/-- No step changes the parameters, a reset included. -/
def Obligations.ParametersNeverChange : Prop :=
  ∀ s t : State, step s = .next t → t.cfg = s.cfg

/-- A whole request, when no transaction fails: from a ready block with a request on the link whose precondition holds, after one step
to accept it and one for each micro-op, the trace has `Req`, exactly the events of the expansion in order, and `Done` with the
response; the shadow has every value written; the flags are the request's; the block is ready for the next request. -/
def Obligations.WholeRequestRuns : Prop :=
  ∀ (s : State) (r : Request) (rest : List Byte) (i : Instr), Inv s → Ready s → s.turns = [] →
    takeRequest s.link = some (r, rest) → decodeRequest r = .ok i → precondition s i = none →
    (nextAnswers (busCount (expand s.cfg i)) s).all BusAnswer.ok = true →
    ∃ t, core.run ((expand s.cfg i).length + 1) s = .next t ∧
      t.trace = s.trace ++ [.req r.word r.payload]
        ++ uopEvents (expand s.cfg i) (nextAnswers (busCount (expand s.cfg i)) s)
        ++ [.done (responseOf i (nextAnswers (busCount (expand s.cfg i)) s))] ∧
      t.shadow = uopShadow (expand s.cfg i) s.shadow ∧ Ready t ∧ t.link = rest ∧ t.turns = [] ∧ t.cfg = s.cfg ∧
      t.configuredLcd = (completionFlags s i).configuredLcd ∧ t.configuredPanel = (completionFlags s i).configuredPanel ∧
      t.lcdReady = (completionFlags s i).lcdReady

/-- Derived from R163, R165, R166, R91, R94 and R26: the first failing transaction stops the request (R163): where the answers before the bus micro-op at index `j` are all good
and its own is not, the trace has the events of the micro-ops before `j`, then the failed transaction and `Flt(FatalIO)`, and
nothing after (R91, R94, R165); the record names the request, the index and the transaction (R26, R165); the flags stay and the request
is abandoned (R166); a failed write leaves its register `unwritten` (R91). -/
def Obligations.FirstFailureStopsTheRequest : Prop :=
  ∀ (s : State) (r : Request) (rest : List Byte) (i : Instr) (j : Nat), Inv s → Ready s → s.turns = [] →
    takeRequest s.link = some (r, rest) → decodeRequest r = .ok i → precondition s i = none →
    (nextAnswers (busCount ((expand s.cfg i).take j)) s).all BusAnswer.ok = true →
    ((nextAnswers (busCount ((expand s.cfg i).take j) + 1) s).getLast?.map BusAnswer.ok) = some false →
    (∀ d reg v, (expand s.cfg i)[j]? = some (.busWrite d reg v) →
      ∃ t, core.run (j + 2) s = .next t ∧
        t.trace = s.trace ++ [.req r.word r.payload]
          ++ uopEvents ((expand s.cfg i).take j) (nextAnswers (busCount ((expand s.cfg i).take j)) s)
          ++ [.wr d reg v false, .flt .fatalIO] ∧
        t.fault = some { cause := .fatalIO, reqWord := r.word, upc := j
                         txn := some { kind := .write, dev := d, reg := reg, value := some v } } ∧
        t.shadow = (uopShadow ((expand s.cfg i).take j) s.shadow).erase (location d reg) ∧ t.busy = false ∧
        t.configuredLcd = s.configuredLcd ∧ t.configuredPanel = s.configuredPanel ∧ t.lcdReady = s.lcdReady) ∧
    (∀ d reg, (expand s.cfg i)[j]? = some (.busRead d reg) →
      ∃ t, core.run (j + 2) s = .next t ∧
        t.trace = s.trace ++ [.req r.word r.payload]
          ++ uopEvents ((expand s.cfg i).take j) (nextAnswers (busCount ((expand s.cfg i).take j)) s)
          ++ [.rd d reg none, .flt .fatalIO] ∧
        t.fault = some { cause := .fatalIO, reqWord := r.word, upc := j
                         txn := some { kind := .read, dev := d, reg := reg, value := none } } ∧
        t.shadow = uopShadow ((expand s.cfg i).take j) s.shadow ∧ t.busy = false ∧
        t.configuredLcd = s.configuredLcd ∧ t.configuredPanel = s.configuredPanel ∧ t.lcdReady = s.lcdReady)

/-! ### What the display and the bus see -/

/-- R41: the locations the requests reach. BUS_WRITE writes and BUS_READ reads the one location it names; EXP_CONFIG writes the five
registers of its device; the LCD requests write the LCD device's port-B data register alone; the PANEL requests read the PANEL
device's port A and write its port B. -/
def Obligations.RequestsReachOnlyTheirLocations : Prop :=
  ∀ (cfg : Config) (i : Instr) (u : MicroOp), (requestRow i).isSome = true → u ∈ expand cfg i →
    match i with
    | .busWrite d reg v => u = .busWrite d reg v
    | .busRead d reg => u = .busRead d reg
    | .expConfig d => ∃ reg v, u = .busWrite d reg v ∧
        reg ∈ [cfg.regDirA, cfg.regPolA, cfg.regPupA, cfg.regDirB, cfg.regDataB]
    | .panelReadButtons => u = .busRead .panel cfg.regDataA
    | .panelWriteLights v => u = .busWrite .panel cfg.regDataB v
    | _ => (∃ v, u = .busWrite .lcd cfg.regDataB v) ∨ ∃ ms, u = .delay ms

/-- R113: a completed transfer latches exactly one nibble, the selector's and the nibble sent, at its second write, whatever was drawn
before it; its first write latches nothing; both writes carry the same data and selector bits. -/
def Obligations.TransferLatchesItsNibble : Prop :=
  ∀ (cfg : Config) (d : FirstDraw) (sel : Selector) (n : Nibble) (as : List BusAnswer), cfg.wf →
    latched cfg d (uopEvents (xfer cfg sel n) as) = [{ sel := sel, n := n }] ∧
      latched cfg d (uopEvents ((xfer cfg sel n).take 1) as) = [] ∧
      portb cfg sel n true &&& ~~~cfg.enMask = portb cfg sel n false

/-- R69, R70: what the controller latches during an LCD_INIT is, as codes, the nibble 0x3 three times, the nibble 0x2, function set,
display on with the cursor off, entry mode, clear, and return home where the parameter asks for it. A reader of any trace forms bytes
from consecutive pairs starting at the fifth nibble since an LCD_INIT began: those of its instructions, and then every byte of an
LCD_INSTR_BYTE, in R70's list or not. A request that is refused, an LCD_INIT above all, begins nothing: the bytes read stay. -/
def Obligations.InitSendsItsCodes : Prop :=
  ∀ (cfg : Config) (d : FirstDraw) (as : List BusAnswer), cfg.wf →
    displayCodes (latched cfg d (uopEvents (expand cfg .lcdInit) as)) =
      ([Instr.init8bit, .init8bit, .init8bit, .set4bit, .functionSet, .displayOnCursorOff, .entryModeInc, .clearDisplay]
        ++ (if cfg.initFinalHome then [Instr.returnHome] else [])).map Decoded.ok ∧
    (∀ (pre : List Event) (b : Byte) (as' : List BusAnswer),
      bytesSinceInit cfg d (pre ++ [.req 0x800000 []] ++ uopEvents (expand cfg .lcdInit) as
          ++ [.done none, .req (requestOf cfg (.lcdInstrByte b)).word []] ++ uopEvents (expand cfg (.lcdInstrByte b)) as'
          ++ [.done none]) =
        some ([0x28, 0x0C, 0x06, 0x01] ++ (if cfg.initFinalHome then [0x02] else []) ++ [b])) ∧
    ∀ (tr : List Event) (w : ReqWord) (p : List Byte),
      (∀ c, bytesSinceInit cfg d (tr ++ [.req w p, .flt c]) = bytesSinceInit cfg d tr) ∧
        bytesSinceInit cfg d (tr ++ [.req w p, .fltFaulted]) = bytesSinceInit cfg d tr

/-- A printed string is latched as its own characters, each as WRITE_DATA, high nibble first, two nibbles each (R68, R72, R120,
R140, R141). -/
def Obligations.PrintSendsItsText : Prop :=
  ∀ (cfg : Config) (d : FirstDraw) (text : List Byte) (as : List BusAnswer), cfg.wf →
    pairCodes (latched cfg d (uopEvents (expand cfg (.lcdPrint text)) as)) = text.map (fun c => Decoded.ok (.writeData c)) ∧
      (latched cfg d (uopEvents (expand cfg (.lcdPrint text)) as)).length = 2 * text.length

/-- R204: an LCD_INIT and every request that sends whole bytes latch an even number of nibbles, so the nibble phase stays at a byte
boundary. R203: EXP_CONFIG of the LCD device, where it makes the first write to the display's port, latches one arbitrary nibble if the
level the expander held had the enable bit set, and none else. Derived: that both halves of this draw are open is read from R203
(notes/assumptions/21.md). R205: after an LCD_INIT, whatever came before it, the controller is in 4-bit mode at a byte boundary; derived, as
notes/assumptions/7.md and 24.md read it. -/
def Obligations.WholeByteRequestsKeepThePhase : Prop :=
  ∀ (cfg : Config) (d : FirstDraw) (b : Byte) (text : List Byte) (as : List BusAnswer), cfg.wf →
    (∀ i ∈ [Instr.lcdInit, .lcdInstrByte b, .lcdChar b, .lcdClearHome, .lcdSetLine b, .lcdPrint text],
      (latched cfg d (uopEvents (expand cfg i) as)).length % 2 = 0) ∧
    latched cfg d (uopEvents (expand cfg (.expConfig .lcd)) as) = (if d.level &&& cfg.enMask = 0 then [] else [d.latch]) ∧
    ∀ (pre : List Event) (m : InterfaceMode),
      interfaceMode cfg d m (pre ++ [.req 0x800000 []] ++ uopEvents (expand cfg .lcdInit) as) = .fourBit ∧
        nibblePhase cfg d (pre ++ [.req 0x800000 []] ++ uopEvents (expand cfg .lcdInit) as) = some .high

/-- R142: the micro-op counts and the least delays of the LCD requests that complete, with default parameters. -/
def Obligations.RequestCosts : Prop :=
  ∀ (cfg : Config) (sel : Selector) (n : Nibble) (b : Byte) (text : List Byte) (as : List BusAnswer),
    cfg = cfg.withDefaults →
    let cost := fun i => (busCount (expand cfg i), (expand cfg i).length, minElapsedMs (uopEvents (expand cfg i) as))
    cost (.lcdNibble sel n) = (2, 2, 0) ∧ cost (.lcdInstrNibble n) = (2, 2, 0) ∧ cost (.lcdInstrByte b) = (4, 4, 0) ∧
      cost (.lcdChar b) = (4, 5, 1) ∧ cost .lcdInit = (28, 31, 6) ∧ cost .lcdClearHome = (8, 10, 2) ∧
      cost (.lcdSetLine b) = (if b < 4 then (4, 4, 0) else (0, 0, 0)) ∧
      cost (.lcdPrint text) = (4 * text.length, 5 * text.length, text.length)
end

