-- ==== Sys2Proof/Laws/State.lean ====
section
/-!
SUPPORT. One lemma per field per update of the state, true by rfl, so that no later proof unfolds a record update.
-/
namespace Sys2Proof.Machine

variable (s : State)

/-! ### setConfigured -/

@[simp] theorem setConfigured_configuredLcd (d : Device) : (s.setConfigured d).configuredLcd = (s.configuredLcd || d == .lcd) := rfl
@[simp] theorem setConfigured_configuredPanel (d : Device) : (s.setConfigured d).configuredPanel = (s.configuredPanel || d == .panel) := rfl
@[simp] theorem setConfigured_lcdReady (d : Device) : (s.setConfigured d).lcdReady = s.lcdReady := rfl
@[simp] theorem setConfigured_fault (d : Device) : (s.setConfigured d).fault = s.fault := rfl
@[simp] theorem setConfigured_busy (d : Device) : (s.setConfigured d).busy = s.busy := rfl
@[simp] theorem setConfigured_req (d : Device) : (s.setConfigured d).req = s.req := rfl
@[simp] theorem setConfigured_uops (d : Device) : (s.setConfigured d).uops = s.uops := rfl
@[simp] theorem setConfigured_upc (d : Device) : (s.setConfigured d).upc = s.upc := rfl
@[simp] theorem setConfigured_shadow (d : Device) : (s.setConfigured d).shadow = s.shadow := rfl
@[simp] theorem setConfigured_trace (d : Device) : (s.setConfigured d).trace = s.trace := rfl
@[simp] theorem setConfigured_cfg (d : Device) : (s.setConfigured d).cfg = s.cfg := rfl
@[simp] theorem setConfigured_link (d : Device) : (s.setConfigured d).link = s.link := rfl
@[simp] theorem setConfigured_turns (d : Device) : (s.setConfigured d).turns = s.turns := rfl
@[simp] theorem setConfigured_answers (d : Device) : (s.setConfigured d).answers = s.answers := rfl
@[simp] theorem setConfigured_draws (d : Device) : (s.setConfigured d).draws = s.draws := rfl

/-! ### setReady -/

@[simp] theorem setReady_configuredLcd : (s.setReady).configuredLcd = s.configuredLcd := rfl
@[simp] theorem setReady_configuredPanel : (s.setReady).configuredPanel = s.configuredPanel := rfl
@[simp] theorem setReady_lcdReady : (s.setReady).lcdReady = true := rfl
@[simp] theorem setReady_fault : (s.setReady).fault = s.fault := rfl
@[simp] theorem setReady_busy : (s.setReady).busy = s.busy := rfl
@[simp] theorem setReady_req : (s.setReady).req = s.req := rfl
@[simp] theorem setReady_uops : (s.setReady).uops = s.uops := rfl
@[simp] theorem setReady_upc : (s.setReady).upc = s.upc := rfl
@[simp] theorem setReady_shadow : (s.setReady).shadow = s.shadow := rfl
@[simp] theorem setReady_trace : (s.setReady).trace = s.trace := rfl
@[simp] theorem setReady_cfg : (s.setReady).cfg = s.cfg := rfl
@[simp] theorem setReady_link : (s.setReady).link = s.link := rfl
@[simp] theorem setReady_turns : (s.setReady).turns = s.turns := rfl
@[simp] theorem setReady_answers : (s.setReady).answers = s.answers := rfl
@[simp] theorem setReady_draws : (s.setReady).draws = s.draws := rfl

/-! ### setShadow -/

@[simp] theorem setShadow_configuredLcd (d : Device) (reg v : Byte) : (s.setShadow d reg v).configuredLcd = s.configuredLcd := rfl
@[simp] theorem setShadow_configuredPanel (d : Device) (reg v : Byte) : (s.setShadow d reg v).configuredPanel = s.configuredPanel := rfl
@[simp] theorem setShadow_lcdReady (d : Device) (reg v : Byte) : (s.setShadow d reg v).lcdReady = s.lcdReady := rfl
@[simp] theorem setShadow_fault (d : Device) (reg v : Byte) : (s.setShadow d reg v).fault = s.fault := rfl
@[simp] theorem setShadow_busy (d : Device) (reg v : Byte) : (s.setShadow d reg v).busy = s.busy := rfl
@[simp] theorem setShadow_req (d : Device) (reg v : Byte) : (s.setShadow d reg v).req = s.req := rfl
@[simp] theorem setShadow_uops (d : Device) (reg v : Byte) : (s.setShadow d reg v).uops = s.uops := rfl
@[simp] theorem setShadow_upc (d : Device) (reg v : Byte) : (s.setShadow d reg v).upc = s.upc := rfl
@[simp] theorem setShadow_shadow (d : Device) (reg v : Byte) : (s.setShadow d reg v).shadow = s.shadow.set (location d reg) v := rfl
@[simp] theorem setShadow_trace (d : Device) (reg v : Byte) : (s.setShadow d reg v).trace = s.trace := rfl
@[simp] theorem setShadow_cfg (d : Device) (reg v : Byte) : (s.setShadow d reg v).cfg = s.cfg := rfl
@[simp] theorem setShadow_link (d : Device) (reg v : Byte) : (s.setShadow d reg v).link = s.link := rfl
@[simp] theorem setShadow_turns (d : Device) (reg v : Byte) : (s.setShadow d reg v).turns = s.turns := rfl
@[simp] theorem setShadow_answers (d : Device) (reg v : Byte) : (s.setShadow d reg v).answers = s.answers := rfl
@[simp] theorem setShadow_draws (d : Device) (reg v : Byte) : (s.setShadow d reg v).draws = s.draws := rfl

/-! ### clearShadow -/

@[simp] theorem clearShadow_configuredLcd (d : Device) (reg : Byte) : (s.clearShadow d reg).configuredLcd = s.configuredLcd := rfl
@[simp] theorem clearShadow_configuredPanel (d : Device) (reg : Byte) : (s.clearShadow d reg).configuredPanel = s.configuredPanel := rfl
@[simp] theorem clearShadow_lcdReady (d : Device) (reg : Byte) : (s.clearShadow d reg).lcdReady = s.lcdReady := rfl
@[simp] theorem clearShadow_fault (d : Device) (reg : Byte) : (s.clearShadow d reg).fault = s.fault := rfl
@[simp] theorem clearShadow_busy (d : Device) (reg : Byte) : (s.clearShadow d reg).busy = s.busy := rfl
@[simp] theorem clearShadow_req (d : Device) (reg : Byte) : (s.clearShadow d reg).req = s.req := rfl
@[simp] theorem clearShadow_uops (d : Device) (reg : Byte) : (s.clearShadow d reg).uops = s.uops := rfl
@[simp] theorem clearShadow_upc (d : Device) (reg : Byte) : (s.clearShadow d reg).upc = s.upc := rfl
@[simp] theorem clearShadow_shadow (d : Device) (reg : Byte) : (s.clearShadow d reg).shadow = s.shadow.erase (location d reg) := rfl
@[simp] theorem clearShadow_trace (d : Device) (reg : Byte) : (s.clearShadow d reg).trace = s.trace := rfl
@[simp] theorem clearShadow_cfg (d : Device) (reg : Byte) : (s.clearShadow d reg).cfg = s.cfg := rfl
@[simp] theorem clearShadow_link (d : Device) (reg : Byte) : (s.clearShadow d reg).link = s.link := rfl
@[simp] theorem clearShadow_turns (d : Device) (reg : Byte) : (s.clearShadow d reg).turns = s.turns := rfl
@[simp] theorem clearShadow_answers (d : Device) (reg : Byte) : (s.clearShadow d reg).answers = s.answers := rfl
@[simp] theorem clearShadow_draws (d : Device) (reg : Byte) : (s.clearShadow d reg).draws = s.draws := rfl

/-! ### emit -/

@[simp] theorem emit_configuredLcd (e : Event) : (s.emit e).configuredLcd = s.configuredLcd := rfl
@[simp] theorem emit_configuredPanel (e : Event) : (s.emit e).configuredPanel = s.configuredPanel := rfl
@[simp] theorem emit_lcdReady (e : Event) : (s.emit e).lcdReady = s.lcdReady := rfl
@[simp] theorem emit_fault (e : Event) : (s.emit e).fault = s.fault := rfl
@[simp] theorem emit_busy (e : Event) : (s.emit e).busy = s.busy := rfl
@[simp] theorem emit_req (e : Event) : (s.emit e).req = s.req := rfl
@[simp] theorem emit_uops (e : Event) : (s.emit e).uops = s.uops := rfl
@[simp] theorem emit_upc (e : Event) : (s.emit e).upc = s.upc := rfl
@[simp] theorem emit_shadow (e : Event) : (s.emit e).shadow = s.shadow := rfl
@[simp] theorem emit_trace (e : Event) : (s.emit e).trace = s.trace ++ [e] := rfl
@[simp] theorem emit_cfg (e : Event) : (s.emit e).cfg = s.cfg := rfl
@[simp] theorem emit_link (e : Event) : (s.emit e).link = s.link := rfl
@[simp] theorem emit_turns (e : Event) : (s.emit e).turns = s.turns := rfl
@[simp] theorem emit_answers (e : Event) : (s.emit e).answers = s.answers := rfl
@[simp] theorem emit_draws (e : Event) : (s.emit e).draws = s.draws := rfl

/-! ### clearRequest -/

@[simp] theorem clearRequest_configuredLcd : (s.clearRequest).configuredLcd = s.configuredLcd := rfl
@[simp] theorem clearRequest_configuredPanel : (s.clearRequest).configuredPanel = s.configuredPanel := rfl
@[simp] theorem clearRequest_lcdReady : (s.clearRequest).lcdReady = s.lcdReady := rfl
@[simp] theorem clearRequest_fault : (s.clearRequest).fault = s.fault := rfl
@[simp] theorem clearRequest_busy : (s.clearRequest).busy = false := rfl
@[simp] theorem clearRequest_req : (s.clearRequest).req = none := rfl
@[simp] theorem clearRequest_uops : (s.clearRequest).uops = [] := rfl
@[simp] theorem clearRequest_upc : (s.clearRequest).upc = 0 := rfl
@[simp] theorem clearRequest_shadow : (s.clearRequest).shadow = s.shadow := rfl
@[simp] theorem clearRequest_trace : (s.clearRequest).trace = s.trace := rfl
@[simp] theorem clearRequest_cfg : (s.clearRequest).cfg = s.cfg := rfl
@[simp] theorem clearRequest_link : (s.clearRequest).link = s.link := rfl
@[simp] theorem clearRequest_turns : (s.clearRequest).turns = s.turns := rfl
@[simp] theorem clearRequest_answers : (s.clearRequest).answers = s.answers := rfl
@[simp] theorem clearRequest_draws : (s.clearRequest).draws = s.draws := rfl

/-! ### raise -/

@[simp] theorem raise_configuredLcd (f : FaultRecord) : (s.raise f).configuredLcd = s.configuredLcd := rfl
@[simp] theorem raise_configuredPanel (f : FaultRecord) : (s.raise f).configuredPanel = s.configuredPanel := rfl
@[simp] theorem raise_lcdReady (f : FaultRecord) : (s.raise f).lcdReady = s.lcdReady := rfl
@[simp] theorem raise_fault (f : FaultRecord) : (s.raise f).fault = some f := rfl
@[simp] theorem raise_busy (f : FaultRecord) : (s.raise f).busy = false := rfl
@[simp] theorem raise_req (f : FaultRecord) : (s.raise f).req = none := rfl
@[simp] theorem raise_uops (f : FaultRecord) : (s.raise f).uops = [] := rfl
@[simp] theorem raise_upc (f : FaultRecord) : (s.raise f).upc = 0 := rfl
@[simp] theorem raise_shadow (f : FaultRecord) : (s.raise f).shadow = s.shadow := rfl
@[simp] theorem raise_trace (f : FaultRecord) : (s.raise f).trace = s.trace ++ [.flt f.cause] := rfl
@[simp] theorem raise_cfg (f : FaultRecord) : (s.raise f).cfg = s.cfg := rfl
@[simp] theorem raise_link (f : FaultRecord) : (s.raise f).link = s.link := rfl
@[simp] theorem raise_turns (f : FaultRecord) : (s.raise f).turns = s.turns := rfl
@[simp] theorem raise_answers (f : FaultRecord) : (s.raise f).answers = s.answers := rfl
@[simp] theorem raise_draws (f : FaultRecord) : (s.raise f).draws = s.draws := rfl

/-! ### takeTurn -/

@[simp] theorem takeTurn_configuredLcd : (s.takeTurn).configuredLcd = s.configuredLcd := rfl
@[simp] theorem takeTurn_configuredPanel : (s.takeTurn).configuredPanel = s.configuredPanel := rfl
@[simp] theorem takeTurn_lcdReady : (s.takeTurn).lcdReady = s.lcdReady := rfl
@[simp] theorem takeTurn_fault : (s.takeTurn).fault = s.fault := rfl
@[simp] theorem takeTurn_busy : (s.takeTurn).busy = s.busy := rfl
@[simp] theorem takeTurn_req : (s.takeTurn).req = s.req := rfl
@[simp] theorem takeTurn_uops : (s.takeTurn).uops = s.uops := rfl
@[simp] theorem takeTurn_upc : (s.takeTurn).upc = s.upc := rfl
@[simp] theorem takeTurn_shadow : (s.takeTurn).shadow = s.shadow := rfl
@[simp] theorem takeTurn_trace : (s.takeTurn).trace = s.trace := rfl
@[simp] theorem takeTurn_cfg : (s.takeTurn).cfg = s.cfg := rfl
@[simp] theorem takeTurn_link : (s.takeTurn).link = s.link := rfl
@[simp] theorem takeTurn_turns : (s.takeTurn).turns = s.turns.tail := rfl
@[simp] theorem takeTurn_answers : (s.takeTurn).answers = s.answers := rfl
@[simp] theorem takeTurn_draws : (s.takeTurn).draws = s.draws := rfl

/-! ### setLink -/

@[simp] theorem setLink_configuredLcd (rest : List Byte) : (s.setLink rest).configuredLcd = s.configuredLcd := rfl
@[simp] theorem setLink_configuredPanel (rest : List Byte) : (s.setLink rest).configuredPanel = s.configuredPanel := rfl
@[simp] theorem setLink_lcdReady (rest : List Byte) : (s.setLink rest).lcdReady = s.lcdReady := rfl
@[simp] theorem setLink_fault (rest : List Byte) : (s.setLink rest).fault = s.fault := rfl
@[simp] theorem setLink_busy (rest : List Byte) : (s.setLink rest).busy = s.busy := rfl
@[simp] theorem setLink_req (rest : List Byte) : (s.setLink rest).req = s.req := rfl
@[simp] theorem setLink_uops (rest : List Byte) : (s.setLink rest).uops = s.uops := rfl
@[simp] theorem setLink_upc (rest : List Byte) : (s.setLink rest).upc = s.upc := rfl
@[simp] theorem setLink_shadow (rest : List Byte) : (s.setLink rest).shadow = s.shadow := rfl
@[simp] theorem setLink_trace (rest : List Byte) : (s.setLink rest).trace = s.trace := rfl
@[simp] theorem setLink_cfg (rest : List Byte) : (s.setLink rest).cfg = s.cfg := rfl
@[simp] theorem setLink_link (rest : List Byte) : (s.setLink rest).link = rest := rfl
@[simp] theorem setLink_turns (rest : List Byte) : (s.setLink rest).turns = s.turns := rfl
@[simp] theorem setLink_answers (rest : List Byte) : (s.setLink rest).answers = s.answers := rfl
@[simp] theorem setLink_draws (rest : List Byte) : (s.setLink rest).draws = s.draws := rfl

/-! ### resetBlock -/

@[simp] theorem resetBlock_configuredLcd : (s.resetBlock).configuredLcd = false := rfl
@[simp] theorem resetBlock_configuredPanel : (s.resetBlock).configuredPanel = false := rfl
@[simp] theorem resetBlock_lcdReady : (s.resetBlock).lcdReady = false := rfl
@[simp] theorem resetBlock_fault : (s.resetBlock).fault = none := rfl
@[simp] theorem resetBlock_busy : (s.resetBlock).busy = false := rfl
@[simp] theorem resetBlock_req : (s.resetBlock).req = none := rfl
@[simp] theorem resetBlock_uops : (s.resetBlock).uops = [] := rfl
@[simp] theorem resetBlock_upc : (s.resetBlock).upc = 0 := rfl
@[simp] theorem resetBlock_shadow : (s.resetBlock).shadow = [] := rfl
@[simp] theorem resetBlock_trace : (s.resetBlock).trace = [] := rfl
@[simp] theorem resetBlock_cfg : (s.resetBlock).cfg = s.cfg := rfl
@[simp] theorem resetBlock_link : (s.resetBlock).link = s.link := rfl
@[simp] theorem resetBlock_turns : (s.resetBlock).turns = s.turns := rfl
@[simp] theorem resetBlock_answers : (s.resetBlock).answers = s.answers := rfl
@[simp] theorem resetBlock_draws : (s.resetBlock).draws = s.draws := rfl

/-! ### withFetchWord -/

@[simp] theorem withFetchWord_configuredLcd (nbits w : Nat) : (s.withFetchWord nbits w).configuredLcd = s.configuredLcd := rfl
@[simp] theorem withFetchWord_configuredPanel (nbits w : Nat) : (s.withFetchWord nbits w).configuredPanel = s.configuredPanel := rfl
@[simp] theorem withFetchWord_lcdReady (nbits w : Nat) : (s.withFetchWord nbits w).lcdReady = s.lcdReady := rfl
@[simp] theorem withFetchWord_fault (nbits w : Nat) : (s.withFetchWord nbits w).fault = s.fault := rfl
@[simp] theorem withFetchWord_busy (nbits w : Nat) : (s.withFetchWord nbits w).busy = s.busy := rfl
@[simp] theorem withFetchWord_req (nbits w : Nat) : (s.withFetchWord nbits w).req = s.req := rfl
@[simp] theorem withFetchWord_uops (nbits w : Nat) : (s.withFetchWord nbits w).uops = s.uops := rfl
@[simp] theorem withFetchWord_upc (nbits w : Nat) : (s.withFetchWord nbits w).upc = s.upc := rfl
@[simp] theorem withFetchWord_shadow (nbits w : Nat) : (s.withFetchWord nbits w).shadow = s.shadow := rfl
@[simp] theorem withFetchWord_trace (nbits w : Nat) : (s.withFetchWord nbits w).trace = s.trace := rfl
@[simp] theorem withFetchWord_cfg (nbits w : Nat) : (s.withFetchWord nbits w).cfg = s.cfg := rfl
@[simp] theorem withFetchWord_link (nbits w : Nat) : (s.withFetchWord nbits w).link = (carrierOf s.cfg (tableCode nbits w)).serial ++ s.link := rfl
@[simp] theorem withFetchWord_turns (nbits w : Nat) : (s.withFetchWord nbits w).turns = .host :: s.turns := rfl
@[simp] theorem withFetchWord_answers (nbits w : Nat) : (s.withFetchWord nbits w).answers = s.answers := rfl
@[simp] theorem withFetchWord_draws (nbits w : Nat) : (s.withFetchWord nbits w).draws = s.draws := rfl

/-! ### takeAnswer and completionFlags -/

@[simp] theorem takeAnswer_configuredLcd : s.takeAnswer.configuredLcd = s.configuredLcd := by unfold State.takeAnswer; split <;> rfl
@[simp] theorem takeAnswer_configuredPanel : s.takeAnswer.configuredPanel = s.configuredPanel := by unfold State.takeAnswer; split <;> rfl
@[simp] theorem takeAnswer_lcdReady : s.takeAnswer.lcdReady = s.lcdReady := by unfold State.takeAnswer; split <;> rfl
@[simp] theorem takeAnswer_fault : s.takeAnswer.fault = s.fault := by unfold State.takeAnswer; split <;> rfl
@[simp] theorem takeAnswer_busy : s.takeAnswer.busy = s.busy := by unfold State.takeAnswer; split <;> rfl
@[simp] theorem takeAnswer_req : s.takeAnswer.req = s.req := by unfold State.takeAnswer; split <;> rfl
@[simp] theorem takeAnswer_uops : s.takeAnswer.uops = s.uops := by unfold State.takeAnswer; split <;> rfl
@[simp] theorem takeAnswer_upc : s.takeAnswer.upc = s.upc := by unfold State.takeAnswer; split <;> rfl
@[simp] theorem takeAnswer_shadow : s.takeAnswer.shadow = s.shadow := by unfold State.takeAnswer; split <;> rfl
@[simp] theorem takeAnswer_trace : s.takeAnswer.trace = s.trace := by unfold State.takeAnswer; split <;> rfl
@[simp] theorem takeAnswer_cfg : s.takeAnswer.cfg = s.cfg := by unfold State.takeAnswer; split <;> rfl
@[simp] theorem takeAnswer_link : s.takeAnswer.link = s.link := by unfold State.takeAnswer; split <;> rfl
@[simp] theorem takeAnswer_turns : s.takeAnswer.turns = s.turns := by unfold State.takeAnswer; split <;> rfl
@[simp] theorem completionFlags_fault (i : Instr) : (completionFlags s i).fault = s.fault := by cases i <;> rfl
@[simp] theorem completionFlags_busy (i : Instr) : (completionFlags s i).busy = s.busy := by cases i <;> rfl
@[simp] theorem completionFlags_req (i : Instr) : (completionFlags s i).req = s.req := by cases i <;> rfl
@[simp] theorem completionFlags_uops (i : Instr) : (completionFlags s i).uops = s.uops := by cases i <;> rfl
@[simp] theorem completionFlags_upc (i : Instr) : (completionFlags s i).upc = s.upc := by cases i <;> rfl
@[simp] theorem completionFlags_shadow (i : Instr) : (completionFlags s i).shadow = s.shadow := by cases i <;> rfl
@[simp] theorem completionFlags_trace (i : Instr) : (completionFlags s i).trace = s.trace := by cases i <;> rfl
@[simp] theorem completionFlags_cfg (i : Instr) : (completionFlags s i).cfg = s.cfg := by cases i <;> rfl
@[simp] theorem completionFlags_link (i : Instr) : (completionFlags s i).link = s.link := by cases i <;> rfl
@[simp] theorem completionFlags_turns (i : Instr) : (completionFlags s i).turns = s.turns := by cases i <;> rfl
@[simp] theorem completionFlags_answers (i : Instr) : (completionFlags s i).answers = s.answers := by cases i <;> rfl
@[simp] theorem completionFlags_draws (i : Instr) : (completionFlags s i).draws = s.draws := by cases i <;> rfl

end Sys2Proof.Machine
end

