-- ==== Sys2Proof/Laws/Encoding.lean ====
section
/-!
SUPPORT. The laws of the encodings: the fields of a request word and the word of its fields determine each other, and the
request words the encoder writes have the fields it was given.
-/
namespace Sys2Proof

theorem getLsbD_packWord (f : ReqFields) (i : Nat) :
    (packWord f).getLsbD i =
      if i < 8 then f.b.getLsbD i else if i < 16 then f.a.getLsbD (i - 8)
      else if i < 19 then f.rsv.getLsbD (i - 16) else if i < 20 then f.dev && i == 19
      else f.op.getLsbD (i - 20) := by
  unfold packWord
  rw [BitVec.getLsbD_append]
  by_cases h1 : i < 8
  · simp [h1]
  · rw [if_neg h1, BitVec.getLsbD_append]
    by_cases h2 : i < 16
    · simp [h1, h2, show i - 8 < 8 by omega]
    · rw [if_neg h1, if_neg h2, if_neg (by omega), BitVec.getLsbD_append]
      by_cases h3 : i < 19
      · simp [h3, show i - 8 - 8 = i - 16 by omega, show ¬(3 ≤ i - 16) by omega]
      · rw [if_neg h3, if_neg (by omega), BitVec.getLsbD_append]
        by_cases h4 : i < 20
        · obtain rfl : i = 19 := by omega
          simp
        · rw [if_neg h4, if_neg (by omega)]
          congr 1

theorem unpackWord_packWord (f : ReqFields) : unpackWord (packWord f) = f := by
  obtain ⟨op, dev, rsv, a, b⟩ := f
  simp only [unpackWord, ReqFields.mk.injEq]
  refine ⟨?_, ?_, ?_, ?_, ?_⟩
  · apply BitVec.eq_of_getLsbD_eq
    intro i hi
    simp only [BitVec.getLsbD_extractLsb', getLsbD_packWord, show ¬(20 + i < 8) by omega, show ¬(20 + i < 16) by omega,
      show ¬(20 + i < 19) by omega, show ¬(20 + i < 20) by omega, if_false, show 20 + i - 20 = i by omega, hi, decide_true,
      Bool.true_and]
  · rw [getLsbD_packWord]
    simp
  · apply BitVec.eq_of_getLsbD_eq
    intro i hi
    simp only [BitVec.getLsbD_extractLsb', getLsbD_packWord, show ¬(16 + i < 8) by omega, show ¬(16 + i < 16) by omega,
      show 16 + i < 19 by omega, if_false, if_true, show 16 + i - 16 = i by omega, hi, decide_true, Bool.true_and]
  · apply BitVec.eq_of_getLsbD_eq
    intro i hi
    simp only [BitVec.getLsbD_extractLsb', getLsbD_packWord, show ¬(8 + i < 8) by omega, show 8 + i < 16 by omega, if_false,
      if_true, show 8 + i - 8 = i by omega, hi, decide_true, Bool.true_and]
  · apply BitVec.eq_of_getLsbD_eq
    intro i hi
    simp only [BitVec.getLsbD_extractLsb', getLsbD_packWord, Nat.zero_add, hi, if_true, decide_true, Bool.true_and]

theorem packWord_unpackWord (w : ReqWord) : packWord (unpackWord w) = w := by
  apply BitVec.eq_of_getLsbD_eq
  intro i hi
  rw [getLsbD_packWord]
  simp only [unpackWord, BitVec.getLsbD_extractLsb']
  split
  · simp [*]
  · split
    · rw [show 8 + (i - 8) = i by omega]
      simp [show i - 8 < 8 by omega]
    · split
      · rw [show 16 + (i - 16) = i by omega]
        simp [show i - 16 < 3 by omega]
      · split
        · obtain rfl : i = 19 := by omega
          simp
        · rw [show 20 + (i - 20) = i by omega]
          simp [show i - 20 < 4 by omega]

theorem unpackWord_requestWord (op : BitVec 4) (d : Device) (a b : Byte) :
    unpackWord (requestWord op d a b) = { op := op, dev := d.bit, rsv := 0, a := a, b := b } :=
  unpackWord_packWord _

@[simp] theorem deviceOfBit_bit (d : Device) : deviceOfBit d.bit = d := by cases d <;> rfl

@[simp] theorem bit_deviceOfBit (b : Bool) : (deviceOfBit b).bit = b := by cases b <;> rfl

theorem payloadLength_requestWord (op : BitVec 4) (d : Device) (a b : Byte) :
    payloadLength (requestWord op d a b) = if op = 0xB#4 then a.toNat else 0 := by
  simp only [payloadLength, unpackWord_requestWord]

/-- The bytes of a request on the link give the word back. -/
theorem append_serial_word (w : ReqWord) :
    (w.extractLsb' 16 8 ++ w.extractLsb' 8 8 ++ w.extractLsb' 0 8 : BitVec 24) = w := by
  apply BitVec.eq_of_getLsbD_eq
  intro i hi
  rw [BitVec.getLsbD_append]
  by_cases h1 : i < 8
  · simp [h1]
  · rw [if_neg h1, BitVec.getLsbD_append]
    by_cases h2 : i - 8 < 8
    · simp [h2, show 8 + (i - 8) = i by omega]
    · simp [h2, show i - 8 - 8 < 8 by omega, show 16 + (i - 8 - 8) = i by omega]

theorem requireZero_eq_ok {c : Bool} {e : DecodeError} {k : Decoded} {i : Instr} :
    requireZero c e k = .ok i ↔ c = true ∧ k = .ok i := by
  cases c <;> simp [requireZero]

/-- A nibble that an operand byte holds, read back from its low half. -/
@[simp] theorem loNibble_setWidth (n : Nibble) : loNibble (n.setWidth 8) = n := by
  revert n; decide

@[simp] theorem hiNibble_setWidth (n : Nibble) : hiNibble (n.setWidth 8) = 0 := by
  revert n; decide

@[simp] theorem selectorOf_byte (sel : Selector) : selectorOf sel.byte = sel := by
  cases sel <;> decide

/-- A byte of two nibbles, high half first (R72). -/
@[simp] theorem append_hi_lo (b : Byte) : (hiNibble b ++ loNibble b : BitVec 8) = b := by
  apply BitVec.eq_of_getLsbD_eq
  intro i hi
  rw [BitVec.getLsbD_append]
  by_cases h : i < 4
  · simp [h, loNibble]
  · simp [h, hiNibble, show i - 4 < 4 by omega, show 4 + (i - 4) = i by omega]

/-! ### Match and mask -/

/-- Masking a word masks its fields. -/
theorem packWord_and (f g : ReqFields) :
    packWord f &&& packWord g =
      packWord { op := f.op &&& g.op, dev := f.dev && g.dev, rsv := f.rsv &&& g.rsv, a := f.a &&& g.a, b := f.b &&& g.b } := by
  apply BitVec.eq_of_getLsbD_eq
  intro i hi
  simp only [BitVec.getLsbD_and, getLsbD_packWord]
  split
  · rfl
  · split
    · rfl
    · split
      · rfl
      · split
        · obtain rfl : i = 19 := by omega
          simp
        · rfl

theorem packWord_inj {f g : ReqFields} : packWord f = packWord g ↔ f = g :=
  ⟨fun h => by rw [← unpackWord_packWord f, h, unpackWord_packWord], fun h => by rw [h]⟩

/-- A word meets a match and a mask exactly when each of its fields does. -/
theorem and_mask_eq_iff (w k m : ReqWord) : w &&& k = m ↔
    (unpackWord w).op &&& (unpackWord k).op = (unpackWord m).op ∧
    ((unpackWord w).dev && (unpackWord k).dev) = (unpackWord m).dev ∧
    (unpackWord w).rsv &&& (unpackWord k).rsv = (unpackWord m).rsv ∧
    (unpackWord w).a &&& (unpackWord k).a = (unpackWord m).a ∧
    (unpackWord w).b &&& (unpackWord k).b = (unpackWord m).b := by
  have h : w &&& k = m ↔ packWord (unpackWord w) &&& packWord (unpackWord k) = packWord (unpackWord m) := by
    simp only [packWord_unpackWord]
  rw [h, packWord_and, packWord_inj]
  simp only [unpackWord, ReqFields.mk.injEq]

theorem and_f0_eq_zero_iff : ∀ a : Byte, a &&& 0xF0 = 0 ↔ hiNibble a = 0 := by decide

theorem and_7f_eq_zero_iff : ∀ a : Byte, a &&& 0x7F = 0 ↔ a = (selectorOf a).byte := by decide

end Sys2Proof
end

