-- ==== Sys2Proof/Laws/Memory.lean ====
section
/-!
SUPPORT. The laws of the shadow's memory: what a read gives after a write or an erasure, that both keep the canonical form, and
that distinct `(dev, reg)` pairs have distinct locations.
-/
namespace Sys2Proof.Machine

theorem Memory.get_nil (a : Nat) : Memory.get [] a = none := rfl

theorem Memory.get_set_same (m : Memory) (a : Nat) (v : Byte) : (m.set a v).get a = some v := by
  induction m with
  | nil => simp [Memory.set, Memory.get]
  | cons c m ih =>
    obtain ⟨b, w⟩ := c
    simp only [Memory.set]
    split
    · simp [Memory.get]
    · split
      · simp [Memory.get]
      · rename_i h1 h2
        simp [Memory.get, ih, Ne.symm h2]

theorem Memory.get_set_other (m : Memory) {a b : Nat} (v : Byte) (h : b ≠ a) : (m.set a v).get b = m.get b := by
  induction m with
  | nil => simp [Memory.set, Memory.get, Ne.symm h]
  | cons c m ih =>
    obtain ⟨x, w⟩ := c
    simp only [Memory.set]
    split
    · simp [Memory.get, Ne.symm h]
    · split
      · rename_i _ h2
        subst h2
        simp [Memory.get, Ne.symm h]
      · simp [Memory.get, ih]

theorem Memory.get_erase_other (m : Memory) {a b : Nat} (h : b ≠ a) : (m.erase a).get b = m.get b := by
  induction m with
  | nil => rfl
  | cons c m ih =>
    obtain ⟨x, w⟩ := c
    simp only [Memory.erase]
    split
    · rename_i h2
      subst h2
      simp [Memory.get, Ne.symm h]
    · simp [Memory.get, ih]

/-- Nothing is listed at a location below every listed one. -/
theorem Memory.get_of_lt (m : Memory) {a : Nat} (h : ∀ c ∈ m, a < c.1) : m.get a = none := by
  induction m with
  | nil => rfl
  | cons c m ih =>
    obtain ⟨x, w⟩ := c
    have hx : a < x := h (x, w) (by simp)
    simp only [Memory.get, Nat.ne_of_gt hx, if_false]
    exact ih fun c hc => h c (List.mem_cons_of_mem _ hc)

theorem Memory.get_erase_same {m : Memory} (h : m.wf) (a : Nat) : (m.erase a).get a = none := by
  induction m with
  | nil => rfl
  | cons c m ih =>
    obtain ⟨x, w⟩ := c
    obtain ⟨hp, hb⟩ := h
    rw [List.pairwise_cons] at hp
    simp only [Memory.erase]
    split
    · rename_i hx
      subst hx
      exact Memory.get_of_lt m hp.1
    · rename_i hx
      simp only [Memory.get, hx, if_false]
      exact ih ⟨hp.2, fun c hc => hb c (List.mem_cons_of_mem _ hc)⟩

theorem Memory.mem_set {m : Memory} {a : Nat} {v : Byte} {c : Host.Cell} (h : c ∈ m.set a v) : c = (a, v) ∨ c ∈ m := by
  induction m with
  | nil => simpa [Memory.set] using h
  | cons x m ih =>
    obtain ⟨b, w⟩ := x
    simp only [Memory.set] at h
    split at h
    · simpa using h
    · split at h
      · rcases List.mem_cons.mp h with h | h
        · exact .inl h
        · exact .inr (List.mem_cons_of_mem _ h)
      · rcases List.mem_cons.mp h with h | h
        · exact .inr (by simp [h])
        · exact (ih h).imp id (List.mem_cons_of_mem _)

theorem Memory.mem_erase {m : Memory} {a : Nat} {c : Host.Cell} (h : c ∈ m.erase a) : c ∈ m := by
  induction m with
  | nil => exact h
  | cons x m ih =>
    obtain ⟨b, w⟩ := x
    simp only [Memory.erase] at h
    split at h
    · exact List.mem_cons_of_mem _ h
    · rcases List.mem_cons.mp h with h | h
      · simp [h]
      · exact List.mem_cons_of_mem _ (ih h)

theorem Memory.wf_nil : Memory.wf [] := ⟨List.Pairwise.nil, by simp⟩

theorem Memory.set_wf {m : Memory} (h : m.wf) {a : Nat} (ha : a < 512) (v : Byte) : (m.set a v).wf := by
  refine ⟨?_, fun c hc => ?_⟩
  · have hp := h.1
    clear h
    induction m with
    | nil => simp [Memory.set]
    | cons x m ih =>
      obtain ⟨b, w⟩ := x
      rw [List.pairwise_cons] at hp
      simp only [Memory.set]
      split
      · rename_i hab
        refine List.pairwise_cons.mpr ⟨fun c hc => ?_, List.pairwise_cons.mpr hp⟩
        rcases List.mem_cons.mp hc with hc | hc
        · simpa [hc] using hab
        · exact Nat.lt_trans hab (hp.1 c hc)
      · split
        · rename_i hab
          subst hab
          exact List.pairwise_cons.mpr ⟨hp.1, hp.2⟩
        · refine List.pairwise_cons.mpr ⟨fun c hc => ?_, ih hp.2⟩
          rcases Memory.mem_set hc with hc | hc
          · subst hc
            show b < a
            omega
          · exact hp.1 c hc
  · rcases Memory.mem_set hc with hc | hc
    · simpa [hc] using ha
    · exact h.2 c hc

theorem Memory.erase_wf {m : Memory} (h : m.wf) (a : Nat) : (m.erase a).wf := by
  refine ⟨?_, fun c hc => h.2 c (Memory.mem_erase hc)⟩
  have hp := h.1
  clear h
  induction m with
  | nil => exact hp
  | cons x m ih =>
    obtain ⟨b, w⟩ := x
    rw [List.pairwise_cons] at hp
    simp only [Memory.erase]
    split
    · exact hp.2
    · exact List.pairwise_cons.mpr ⟨fun c hc => hp.1 c (Memory.mem_erase hc), ih hp.2⟩

theorem location_lt (d : Device) (reg : Byte) : location d reg < 512 := by
  have := reg.isLt
  cases d <;> simp only [location] <;> omega

theorem location_inj {d d' : Device} {reg reg' : Byte} : location d reg = location d' reg' ↔ d = d' ∧ reg = reg' := by
  have h1 := reg.isLt
  have h2 := reg'.isLt
  constructor
  · intro h
    cases d <;> cases d' <;> simp only [location] at h <;> first
      | exact ⟨rfl, BitVec.eq_of_toNat_eq (by omega)⟩
      | omega
  · rintro ⟨rfl, rfl⟩
    rfl

/-! ### The shadow (R30) -/

theorem shadowAt_setShadow_same (s : State) (d : Device) (reg v : Byte) :
    (s.setShadow d reg v).shadowAt d reg = some v :=
  Memory.get_set_same _ _ _

theorem shadowAt_setShadow_other (s : State) {d d' : Device} {reg reg' : Byte} (v : Byte) (h : ¬(d' = d ∧ reg' = reg)) :
    (s.setShadow d reg v).shadowAt d' reg' = s.shadowAt d' reg' :=
  Memory.get_set_other _ _ (fun h' => h (location_inj.mp h'))

theorem shadowAt_clearShadow_same {s : State} (hs : s.shadow.wf) (d : Device) (reg : Byte) :
    (s.clearShadow d reg).shadowAt d reg = none :=
  Memory.get_erase_same hs _

theorem shadowAt_clearShadow_other (s : State) {d d' : Device} {reg reg' : Byte} (h : ¬(d' = d ∧ reg' = reg)) :
    (s.clearShadow d reg).shadowAt d' reg' = s.shadowAt d' reg' :=
  Memory.get_erase_other _ (fun h' => h (location_inj.mp h'))

end Sys2Proof.Machine
end

