-- ==== Sys2Proof/Laws/Observe.lean ====
section
/-!
SUPPORT. What the observations of a trace do on its parts: the latches (30_encoding.md R68), the bytes of a latched stream (R69), and the
events since the last LCD_INIT.
-/
namespace Sys2Proof.Machine

/-! ### Latches -/

/-- The latches after the first write follow from the levels; the first is the draw's. -/
theorem latched_of_writes {cfg : Config} {trace : List Event} {v : Byte} {vs : List Byte} (d : FirstDraw)
    (h : lcdWrites cfg trace = v :: vs) :
    latched cfg d trace = (if EnableFalls cfg d.level v then [d.latch] else []) ++ latchesFrom cfg v vs := by
  simp only [latched, h]

/-- A trace without a write to the display's port latches nothing. -/
theorem latched_no_writes {cfg : Config} {trace : List Event} (d : FirstDraw) (h : lcdWrites cfg trace = []) :
    latched cfg d trace = [] := by
  simp only [latched, h]

/-- Where the first write, if there is one, sets enable, the draw latches nothing. -/
theorem latched_enable_set {cfg : Config} {trace : List Event} (d : FirstDraw)
    (h : ∀ v, (lcdWrites cfg trace).head? = some v → v &&& cfg.enMask ≠ 0) :
    latched cfg d trace = latchesFrom cfg d.level (lcdWrites cfg trace) := by
  unfold latched
  split
  · next hw => rw [hw]; rfl
  · next v vs hw =>
    have hf : ¬EnableFalls cfg d.level v := fun hf => h v (by rw [hw]; rfl) hf.1
    rw [hw, latchesFrom, if_neg hf, if_neg hf]

/-- How many nibbles a trace latches does not depend on which one the draw latches. -/
theorem latched_length (cfg : Config) (d : FirstDraw) (trace : List Event) :
    (latched cfg d trace).length = (latchesFrom cfg d.level (lcdWrites cfg trace)).length := by
  unfold latched
  split
  · next h => rw [h]; rfl
  · next v vs h =>
    rw [h, latchesFrom, List.length_append, List.length_append]
    split <;> rfl

/-! ### Bytes of a latched stream -/

@[simp] theorem pairBytes_nil : pairBytes [] = [] := rfl

@[simp] theorem pairBytes_single (x : Latch) : pairBytes [x] = [] := rfl

@[simp] theorem pairBytes_cons_cons (hi lo : Latch) (rest : List Latch) :
    pairBytes (hi :: lo :: rest) = pairByte hi lo :: pairBytes rest := rfl

/-- The two nibbles of a byte form that byte, whichever selectors they are sent with (R72). -/
@[simp] theorem pairByte_split (sel sel' : Selector) (b : Byte) :
    pairByte { sel := sel, n := hiNibble b } { sel := sel', n := loNibble b } = b := append_hi_lo b

/-! ### The events since an LCD_INIT -/

theorem lcdWrites_append (cfg : Config) (es fs : List Event) :
    lcdWrites cfg (es ++ fs) = lcdWrites cfg es ++ lcdWrites cfg fs := List.filterMap_append

/-- Where an LCD_INIT begins in the later events, those alone decide. -/
theorem sinceInit_append_some {es since : List Event} (tr : List Event) (h : sinceInit es = some since) :
    sinceInit (tr ++ es) = some since := by
  induction tr with
  | nil => exact h
  | cons e tr ih => simp only [List.cons_append, sinceInit, ih]

/-- Where none does, and the later events do not begin with a write, they are so many more since the last. -/
theorem sinceInit_append_none {es : List Event} (tr : List Event) (h : sinceInit es = none) (hw : beginsWithWrite es = false) :
    sinceInit (tr ++ es) = (sinceInit tr).map (· ++ es) := by
  induction tr with
  | nil => simpa only [List.nil_append, sinceInit, Option.map_none] using h
  | cons e tr ih =>
    have hb : beginsWithWrite (tr ++ es) = beginsWithWrite tr := by
      cases tr with
      | nil => exact hw
      | cons f tr => cases f <;> rfl
    simp only [List.cons_append, sinceInit, ih, hb]
    cases sinceInit tr with
    | some since => rfl
    | none =>
      simp only [Option.map_none]
      split <;> rfl

/-- No LCD_INIT begins where none is submitted. -/
theorem sinceInit_none {es : List Event} (h : .req 0x800000 [] ∉ es) : sinceInit es = none := by
  induction es with
  | nil => rfl
  | cons e es ih =>
    simp only [List.mem_cons, not_or] at h
    simp only [sinceInit, ih h.2]
    exact if_neg fun hc => h.1 hc.1.symm

/-- What follows the word of the last LCD_INIT that begins is what is since it. -/
theorem sinceInit_after (pre es : List Event) (hw : beginsWithWrite es = true) (h : .req 0x800000 [] ∉ es) :
    sinceInit (pre ++ [.req 0x800000 []] ++ es) = some es := by
  rw [List.append_assoc]
  refine sinceInit_append_some pre ?_
  simp only [List.singleton_append, sinceInit, sinceInit_none h]
  exact if_pos ⟨trivial, hw⟩

/-- A refused request, an LCD_INIT or another, begins nothing. -/
theorem sinceInit_refused (tr : List Event) (w : ReqWord) (p : List Byte) (e : Event) (hn : sinceInit [e] = none)
    (hw : beginsWithWrite [e] = false) :
    sinceInit (tr ++ [.req w p, e]) = (sinceInit tr).map (· ++ [.req w p, e]) := by
  refine sinceInit_append_none tr ?_ rfl
  rw [sinceInit, hn]
  simp only [hw, Bool.false_eq_true, and_false, if_false]

/-! ### The controller's mode and phase -/

/-- Where the nibble phase is known the controller is in 4-bit mode, whatever mode was drawn (R32). -/
theorem fourBit_of_nibblePhase {cfg : Config} {d : FirstDraw} {tr : List Event} {p : NibblePhase} (m : InterfaceMode)
    (h : nibblePhase cfg d tr = some p) : interfaceMode cfg d m tr = .fourBit := by
  unfold nibblePhase at h
  unfold interfaceMode
  cases hf : fourBitNibbles cfg d tr with
  | some n => rfl
  | none => rw [hf] at h; cases h

end Sys2Proof.Machine
end

