-- ==== Sys2Proof/Laws/Ops.lean ====
section
/-!
SUPPORT. What each shared operation can do, said once: submitting a request, performing a micro-op, the sequencer and the step. Later
proofs cite these and do not unfold the operations.
-/
namespace Sys2Proof.Machine

/-! ### Submitting a request -/

/-- Every instruction's meaning is the submission of its request. -/
theorem exec_eq (i : Instr) (s : State) :
    exec i s = .next (submit (requestOf s.cfg i) (precondition s i) (expand s.cfg i) s) := by
  cases i <;> rfl

theorem submit_faulted {s : State} (h : s.fault.isSome = true) (r : Request) (c : Option Cause) (us : List MicroOp) :
    submit r c us s = { s with trace := s.trace ++ [.req r.word r.payload, .fltFaulted] } := by
  simp [submit, h, State.emit]

theorem submit_busy {s : State} (hf : s.fault = none) (hb : s.busy = true) (r : Request) (c : Option Cause)
    (us : List MicroOp) :
    submit r c us s = { s with
      fault := some { cause := .overlap, reqWord := r.word, upc := s.upc, txn := none }
      busy := false, req := none, uops := [], upc := 0
      trace := s.trace ++ [.req r.word r.payload, .flt .overlap] } := by
  simp [submit, hf, hb, State.emit, State.raise, State.clearRequest]

theorem submit_rejected {s : State} (h : Ready s) (r : Request) (c : Cause) (us : List MicroOp) :
    submit r (some c) us s = rejected s r c := by
  simp [submit, h.1, h.2, State.emit, State.raise, State.clearRequest, rejected]

theorem submit_accept {s : State} (h : Ready s) (r : Request) (us : List MicroOp) :
    submit r none us s = (s.emit (.req r.word r.payload)).accept r us := by
  simp [submit, h.1, h.2]

theorem accept_of_ne_nil (s : State) (r : Request) {us : List MicroOp} (h : us ≠ []) :
    s.accept r us = { s with busy := true, req := some r, uops := us, upc := 0 } := by
  cases us with
  | nil => exact absurd rfl h
  | cons u us => rfl

theorem accept_nil (s : State) (r : Request) :
    s.accept r [] = { s with busy := true, req := some r, uops := [], upc := 0 }.complete none := rfl

/-- A non-empty expansion is accepted as the request in progress. -/
theorem submit_accepted {s : State} (h : Ready s) (r : Request) {us : List MicroOp} (hu : us ≠ []) :
    submit r none us s = accepted s r us := by
  rw [submit_accept h, accept_of_ne_nil _ _ hu]
  simp [accepted, State.emit, h.2]

/-! ### The end of a request -/

theorem complete_eq (s : State) (resp : Option Byte) :
    s.complete resp = { applyCompletion s with
      trace := (applyCompletion s).trace ++ [.done resp], busy := false, req := none, uops := [], upc := 0 } := rfl

/-- The flags of the completion of a request that decodes to `i`. -/
theorem applyCompletion_of {s : State} {r : Request} {i : Instr} (hr : s.req = some r) (hi : decodeRequest r = .ok i) :
    applyCompletion s = completionFlags s i := by
  simp [applyCompletion, hr, hi]

/-- Completing a request changes beside the flags only the trace and the sequencer. -/
theorem applyCompletion_cases (s : State) : applyCompletion s = s ∨ ∃ i, applyCompletion s = completionFlags s i := by
  unfold applyCompletion
  split
  · split
    · exact .inr ⟨_, rfl⟩
    · exact .inl rfl
  · exact .inl rfl

@[simp] theorem applyCompletion_trace (s : State) : (applyCompletion s).trace = s.trace := by
  rcases applyCompletion_cases s with h | ⟨i, h⟩ <;> simp [h]

@[simp] theorem applyCompletion_shadow (s : State) : (applyCompletion s).shadow = s.shadow := by
  rcases applyCompletion_cases s with h | ⟨i, h⟩ <;> simp [h]

@[simp] theorem applyCompletion_fault (s : State) : (applyCompletion s).fault = s.fault := by
  rcases applyCompletion_cases s with h | ⟨i, h⟩ <;> simp [h]

@[simp] theorem applyCompletion_cfg (s : State) : (applyCompletion s).cfg = s.cfg := by
  rcases applyCompletion_cases s with h | ⟨i, h⟩ <;> simp [h]

@[simp] theorem applyCompletion_link (s : State) : (applyCompletion s).link = s.link := by
  rcases applyCompletion_cases s with h | ⟨i, h⟩ <;> simp [h]

@[simp] theorem applyCompletion_turns (s : State) : (applyCompletion s).turns = s.turns := by
  rcases applyCompletion_cases s with h | ⟨i, h⟩ <;> simp [h]

@[simp] theorem applyCompletion_answers (s : State) : (applyCompletion s).answers = s.answers := by
  rcases applyCompletion_cases s with h | ⟨i, h⟩ <;> simp [h]

@[simp] theorem applyCompletion_draws (s : State) : (applyCompletion s).draws = s.draws := by
  rcases applyCompletion_cases s with h | ⟨i, h⟩ <;> simp [h]

/-! ### Performing a micro-op -/

/-- Whether the bus answers a micro-op's transaction with success; a delay has none and always ends. -/
def uopOk (u : MicroOp) (s : State) : Bool :=
  match u with
  | .busWrite _ _ _ => s.nextAnswer.ok
  | .busRead _ _ => s.nextAnswer.ok
  | .delay _ => true

theorem performWrite_ok {a : BusAnswer} (h : a.ok = true) (d : Device) (reg v : Byte) (s : State) :
    performWrite a d reg v s =
      { s with trace := s.trace ++ [.wr d reg v true], shadow := s.shadow.set (location d reg) v } := by
  simp [performWrite, h, State.emit, State.setShadow]

theorem performWrite_failed {a : BusAnswer} (h : a.ok = false) (d : Device) (reg v : Byte) (s : State) :
    performWrite a d reg v s = { s with
      trace := s.trace ++ [.wr d reg v false, .flt .fatalIO], shadow := s.shadow.erase (location d reg)
      fault := some { cause := .fatalIO, reqWord := s.reqWord, upc := s.upc
                      txn := some { kind := .write, dev := d, reg := reg, value := some v } }
      busy := false, req := none, uops := [], upc := 0 } := by
  simp [performWrite, h, State.emit, State.clearShadow, State.raise, State.clearRequest]

theorem performRead_ok {a : BusAnswer} (h : a.ok = true) (d : Device) (reg : Byte) (s : State) :
    performRead a d reg s = { s with trace := s.trace ++ [.rd d reg (some a.byte)] } := by
  simp [performRead, h, State.emit]

theorem performRead_failed {a : BusAnswer} (h : a.ok = false) (d : Device) (reg : Byte) (s : State) :
    performRead a d reg s = { s with
      trace := s.trace ++ [.rd d reg none, .flt .fatalIO]
      fault := some { cause := .fatalIO, reqWord := s.reqWord, upc := s.upc
                      txn := some { kind := .read, dev := d, reg := reg, value := none } }
      busy := false, req := none, uops := [], upc := 0 } := by
  simp [performRead, h, State.emit, State.raise, State.clearRequest]

@[simp] theorem takeAnswer_reqWord (s : State) : s.takeAnswer.reqWord = s.reqWord := by
  simp [State.reqWord]

/-- The environment and the flags a micro-op leaves alone, whatever the bus answers. -/
theorem perform_frame (u : MicroOp) (s : State) :
    (perform u s).cfg = s.cfg ∧ (perform u s).link = s.link ∧ (perform u s).turns = s.turns ∧
      (perform u s).configuredLcd = s.configuredLcd ∧ (perform u s).configuredPanel = s.configuredPanel ∧
      (perform u s).lcdReady = s.lcdReady := by
  cases u with
  | busWrite d reg v => cases h : s.nextAnswer.ok <;> simp [perform, performWrite, h]
  | busRead d reg => cases h : s.nextAnswer.ok <;> simp [perform, performRead, h]
  | delay ms => simp [perform, performDelay]

/-- A micro-op that succeeds leaves the sequencer and the fault alone. -/
theorem perform_ok {u : MicroOp} {s : State} (h : uopOk u s = true) :
    (perform u s).busy = s.busy ∧ (perform u s).req = s.req ∧ (perform u s).uops = s.uops ∧
      (perform u s).upc = s.upc ∧ (perform u s).fault = s.fault := by
  cases u with
  | busWrite d reg v => simp [uopOk] at h; simp [perform, performWrite, h]
  | busRead d reg => simp [uopOk] at h; simp [perform, performRead, h]
  | delay ms => simp [perform, performDelay]

/-- A micro-op whose transaction fails leaves the block faulted and at rest. -/
theorem perform_failed {u : MicroOp} {s : State} (h : uopOk u s = false) :
    (perform u s).busy = false ∧ (perform u s).req = none ∧ (perform u s).uops = [] ∧ (perform u s).upc = 0 ∧
      (perform u s).fault.isSome = true := by
  cases u with
  | busWrite d reg v => simp [uopOk] at h; simp [perform, performWrite, h]
  | busRead d reg => simp [uopOk] at h; simp [perform, performRead, h]
  | delay ms => simp [uopOk] at h

/-- Every micro-op keeps the shadow's canonical form. -/
theorem perform_wf {u : MicroOp} {s : State} (h : s.shadow.wf) : (perform u s).shadow.wf := by
  cases u with
  | busWrite d reg v =>
    cases ha : s.nextAnswer.ok
    · simpa [perform, performWrite, ha] using Memory.erase_wf h _
    · simpa [perform, performWrite, ha] using Memory.set_wf h (location_lt d reg) v
  | busRead d reg => cases ha : s.nextAnswer.ok <;> simpa [perform, performRead, ha] using h
  | delay ms => simpa [perform, performDelay] using h

/-! ### The sequencer and the step -/

theorem sequencer_still {s : State} (h : s.busy = false ∨ s.fault.isSome = true) : sequencer s = .next s := by
  rcases h with h | h
  · simp [sequencer, h]
  · cases hf : s.fault
    · simp [hf] at h
    · simp [sequencer, hf]

theorem sequencer_at {s : State} {u : MicroOp} (hb : s.busy = true) (hf : s.fault = none) (hu : s.uops[s.upc]? = some u) :
    sequencer s = .next ((perform u s).advance (returned u s)) := by
  simp [sequencer, hb, hf, hu]

theorem advance_faulted {s : State} (h : s.fault.isSome = true) (resp : Option Byte) : s.advance resp = s := by
  simp [State.advance, h]

theorem advance_more {s : State} (hf : s.fault = none) (h : s.upc + 1 ≠ s.uops.length) (resp : Option Byte) :
    s.advance resp = { s with upc := s.upc + 1 } := by
  simp [State.advance, hf, h]

theorem advance_last {s : State} (hf : s.fault = none) (h : s.upc + 1 = s.uops.length) (resp : Option Byte) :
    s.advance resp = { s with upc := s.upc + 1 }.complete resp := by
  simp [State.advance, hf, h]

/-- What follows a micro-op: nothing after a fault, else the request's completion after the last one, else the next one. -/
theorem advance_cases (s : State) (resp : Option Byte) :
    (s.fault.isSome = true ∧ s.advance resp = s) ∨
    (s.fault = none ∧ s.upc + 1 = s.uops.length ∧ s.advance resp = { s with upc := s.upc + 1 }.complete resp) ∨
    (s.fault = none ∧ s.upc + 1 ≠ s.uops.length ∧ s.advance resp = { s with upc := s.upc + 1 }) := by
  by_cases hs : s.fault.isSome = true
  · exact .inl ⟨hs, advance_faulted hs resp⟩
  · have hf : s.fault = none := by simpa using hs
    by_cases h : s.upc + 1 = s.uops.length
    · exact .inr (.inl ⟨hf, h, advance_last hf h resp⟩)
    · exact .inr (.inr ⟨hf, h, advance_more hf h resp⟩)

/-- What a step can do: reset the block, move its sequencer, find no whole request on the link, or submit the one at its head. -/
theorem step_cases (s : State) :
    (s.mover = .reset ∧ step s = .next s.takeTurn.resetBlock) ∨
    (s.mover = .block ∧ step s = sequencer s.takeTurn) ∨
    (s.mover = .host ∧ takeRequest s.link = none ∧ step s = .next s.takeTurn) ∨
    (∃ r rest e, s.mover = .host ∧ takeRequest s.link = some (r, rest) ∧ decodeRequest r = .illegal e ∧
      step s = .next (submitIllegal r (s.takeTurn.setLink rest))) ∨
    (∃ r rest i, s.mover = .host ∧ takeRequest s.link = some (r, rest) ∧ decodeRequest r = .ok i ∧
      step s = exec i (s.takeTurn.setLink rest)) := by
  cases hm : s.mover with
  | reset => exact .inl ⟨rfl, by simp [step, hm]⟩
  | block => exact .inr (.inl ⟨rfl, by simp [step, hm]⟩)
  | host =>
    cases hl : takeRequest s.link with
    | none => exact .inr (.inr (.inl ⟨rfl, rfl, by simp [step, hm, hl]⟩))
    | some p =>
      obtain ⟨r, rest⟩ := p
      cases hd : decodeRequest r with
      | illegal e => exact .inr (.inr (.inr (.inl ⟨r, rest, e, rfl, rfl, hd, by simp [step, hm, hl, hd]⟩)))
      | ok i => exact .inr (.inr (.inr (.inr ⟨r, rest, i, rfl, rfl, hd, by simp [step, hm, hl, hd]⟩)))

end Sys2Proof.Machine
end

