-- ==== Sys2Proof/Laws/PerInstr.lean ====
section
/-!
SUPPORT. Laws stated of every instruction, one lemma per constructor.
-/
namespace Sys2Proof.Laws.EncodingMatchesRow

open Sys2Proof

/-- The request the encoder writes for a well-formed instruction has the payload length its word tells (R73), and its word meets the
match and the mask of the instruction's row (R62). -/
def Statement (i : Instr) : Prop :=
  WellFormed i = true → ∀ cfg : Config,
    (requestOf cfg i).payload.length = payloadLength (requestOf cfg i).word ∧
      ∀ m k, requestRow i = some (m, k) → (requestOf cfg i).word &&& k = m

/-- A word of the given fields meets a match and a mask where each field does. -/
theorem of_fields {op : BitVec 4} {d : Device} {a b : Byte} {m k m' k' : ReqWord} (h : some (m', k') = some (m, k))
    (h1 : op &&& (unpackWord k').op = (unpackWord m').op) (h2 : (d.bit && (unpackWord k').dev) = (unpackWord m').dev)
    (h3 : 0 &&& (unpackWord k').rsv = (unpackWord m').rsv) (h4 : a &&& (unpackWord k').a = (unpackWord m').a)
    (h5 : b &&& (unpackWord k').b = (unpackWord m').b) : requestWord op d a b &&& k = m := by
  injection h with h
  injection h with hm hk
  subst hm hk
  rw [and_mask_eq_iff, unpackWord_requestWord]
  exact ⟨h1, h2, h3, h4, h5⟩

/-- A word of another opcode than LCD_PRINT's has no payload. -/
theorem no_payload {op : BitVec 4} {d : Device} {a b : Byte} (h : op ≠ 0xB#4) :
    ([] : List Byte).length = payloadLength (requestWord op d a b) := by
  rw [payloadLength_requestWord, if_neg h]
  rfl

theorem busWrite (d : Device) (reg v : Byte) : Statement (.busWrite d reg v) :=
  fun _ _ => ⟨no_payload (by decide), fun _ _ h => of_fields h rfl (by cases d <;> rfl) rfl BitVec.and_zero BitVec.and_zero⟩

theorem busRead (d : Device) (reg : Byte) : Statement (.busRead d reg) :=
  fun _ _ => ⟨no_payload (by decide), fun _ _ h => of_fields h rfl (by cases d <;> rfl) rfl BitVec.and_zero rfl⟩

theorem expConfig (d : Device) : Statement (.expConfig d) :=
  fun _ _ => ⟨no_payload (by decide), fun _ _ h => of_fields h rfl (by cases d <;> rfl) rfl rfl rfl⟩

theorem lcdNibble (sel : Selector) (n : Nibble) : Statement (.lcdNibble sel n) :=
  fun _ _ => ⟨no_payload (by decide), fun _ _ h => of_fields h rfl rfl rfl ((and_f0_eq_zero_iff _).mpr (hiNibble_setWidth n)) (by cases sel <;> rfl)⟩

theorem lcdInstrNibble (n : Nibble) : Statement (.lcdInstrNibble n) :=
  fun _ _ => ⟨no_payload (by decide), fun _ _ h => of_fields h rfl rfl rfl ((and_f0_eq_zero_iff _).mpr (hiNibble_setWidth n)) rfl⟩

theorem lcdInstrByte (b : Byte) : Statement (.lcdInstrByte b) :=
  fun _ _ => ⟨no_payload (by decide), fun _ _ h => of_fields h rfl rfl rfl BitVec.and_zero rfl⟩

theorem lcdChar (c : Byte) : Statement (.lcdChar c) :=
  fun _ _ => ⟨no_payload (by decide), fun _ _ h => of_fields h rfl rfl rfl BitVec.and_zero rfl⟩

theorem lcdInit : Statement .lcdInit :=
  fun _ _ => ⟨no_payload (by decide), fun _ _ h => of_fields h rfl rfl rfl rfl rfl⟩

theorem lcdClearHome : Statement .lcdClearHome :=
  fun _ _ => ⟨no_payload (by decide), fun _ _ h => of_fields h rfl rfl rfl rfl rfl⟩

theorem lcdSetLine (line : Byte) : Statement (.lcdSetLine line) :=
  fun _ _ => ⟨no_payload (by decide), fun _ _ h => of_fields h rfl rfl rfl BitVec.and_zero rfl⟩

theorem lcdPrint (text : List Byte) : Statement (.lcdPrint text) :=
  fun hw _ => ⟨by
    have h : text.length < 256 := by simp [WellFormed] at hw; omega
    simp only [requestOf, payloadLength_requestWord, BitVec.toNat_ofNat]
    exact (Nat.mod_eq_of_lt h).symm, fun _ _ h => of_fields h rfl rfl rfl BitVec.and_zero rfl⟩

theorem panelReadButtons : Statement .panelReadButtons :=
  fun _ _ => ⟨no_payload (by decide), fun _ _ h => of_fields h rfl rfl rfl rfl rfl⟩

theorem panelWriteLights (v : Byte) : Statement (.panelWriteLights v) :=
  fun _ _ => ⟨no_payload (by decide), fun _ _ h => of_fields h rfl rfl rfl BitVec.and_zero rfl⟩

theorem init8bit : Statement .init8bit :=
  fun _ _ => ⟨no_payload (by decide), fun _ _ h => by cases h⟩

theorem set4bit : Statement .set4bit :=
  fun _ _ => ⟨no_payload (by decide), fun _ _ h => by cases h⟩

theorem functionSet : Statement .functionSet :=
  fun _ _ => ⟨no_payload (by decide), fun _ _ h => by cases h⟩

theorem displayOnCursorOff : Statement .displayOnCursorOff :=
  fun _ _ => ⟨no_payload (by decide), fun _ _ h => by cases h⟩

theorem entryModeInc : Statement .entryModeInc :=
  fun _ _ => ⟨no_payload (by decide), fun _ _ h => by cases h⟩

theorem clearDisplay : Statement .clearDisplay :=
  fun _ _ => ⟨no_payload (by decide), fun _ _ h => by cases h⟩

theorem returnHome : Statement .returnHome :=
  fun _ _ => ⟨no_payload (by decide), fun _ _ h => by cases h⟩

theorem setDdramAddr (a : DdramAddr) : Statement (.setDdramAddr a) :=
  fun _ _ => ⟨no_payload (by decide), fun _ _ h => by cases h⟩

theorem writeData (c : Byte) : Statement (.writeData c) :=
  fun _ _ => ⟨no_payload (by decide), fun _ _ h => by cases h⟩

theorem portbByte (sel : Selector) (n : Nibble) (en : Bool) : Statement (.portbByte sel n en) :=
  fun _ _ => ⟨no_payload (by decide), fun _ _ h => by cases h⟩

end Sys2Proof.Laws.EncodingMatchesRow
end

