-- ==== Sys2Proof/Laws/Run.lean ====
section
/-!
SUPPORT. Runs of several steps, the bus's coming answers, and the expansion of a string character by character.
-/
namespace Sys2Proof.Machine

/-! ### Runs -/

theorem run_step_of (M : Host.Core) {s t : M.State} (n : Nat) (h : M.step s = .next t) : M.run (n + 1) s = M.run n t := by
  simp only [Host.Core.run, h]

theorem run_zero (s : State) : core.run 0 s = .next s := rfl

/-- A run whose first step answers a next state goes on from there. -/
theorem run_succ {s t : State} (n : Nat) (h : step s = .next t) : core.run (n + 1) s = core.run n t :=
  run_step_of core n h

theorem run_succ_inv (M : Host.Core) {s t : M.State} {n : Nat} (h : M.run (n + 1) s = .next t) :
    ∃ s', M.step s = .next s' ∧ M.run n s' = .next t := by
  simp only [Host.Core.run] at h
  split at h
  · exact ⟨_, by assumption, h⟩
  all_goals cases h

/-- Two runs one after the other are one run. -/
theorem run_add (n m : Nat) : ∀ {s t : State}, core.run n s = .next t → core.run (n + m) s = core.run m t := by
  induction n with
  | zero =>
    intro s t h
    rw [run_zero] at h
    injection h with h
    rw [h, Nat.zero_add]
  | succ n ih =>
    intro s t h
    obtain ⟨s', hs, h⟩ := run_succ_inv core h
    rw [Nat.succ_add, run_succ _ hs]
    exact ih h

/-! ### The bus's coming answers -/

/-- The coming answers depend on the script and the count of free answers alone. -/
theorem nextAnswers_congr (n : Nat) :
    ∀ {s t : State}, s.answers = t.answers → s.draws = t.draws → nextAnswers n s = nextAnswers n t := by
  induction n with
  | zero => intros; rfl
  | succ n ih =>
    intro s t h1 h2
    have h : s.nextAnswer = t.nextAnswer := by simp only [State.nextAnswer, h1, h2]
    have h' : nextAnswers n s.takeAnswer = nextAnswers n t.takeAnswer :=
      ih (by simp only [State.takeAnswer, h1]; cases t.answers <;> simp_all)
        (by simp only [State.takeAnswer, h1]; cases t.answers <;> simp_all)
    simp only [nextAnswers, h, h']

@[simp] theorem nextAnswers_length (n : Nat) (s : State) : (nextAnswers n s).length = n := by
  induction n generalizing s with
  | zero => rfl
  | succ n ih => simp [nextAnswers, ih]

theorem busCount_append (us vs : List MicroOp) : busCount (us ++ vs) = busCount us + busCount vs := by
  induction us with
  | nil => simp [busCount]
  | cons u us ih => cases u <;> simp [busCount, ih] <;> omega

theorem uopEvents_append (us vs : List MicroOp) (as : List BusAnswer) :
    uopEvents (us ++ vs) as = uopEvents us as ++ uopEvents vs (as.drop (busCount us)) := by
  induction us generalizing as with
  | nil => simp [uopEvents, busCount]
  | cons u us ih => cases u <;> simp [uopEvents, busCount, ih]

theorem uopShadow_append (us vs : List MicroOp) (m : Memory) :
    uopShadow (us ++ vs) m = uopShadow vs (uopShadow us m) := by
  induction us generalizing m with
  | nil => rfl
  | cons u us ih => cases u <;> simp [uopShadow, ih]

/-! ### A string, character by character -/

theorem printText_nil (cfg : Config) : printText cfg [] = [] := rfl

theorem printText_single (cfg : Config) (c : Byte) : printText cfg [c] = charSend cfg c := rfl

theorem printText_cons_cons (cfg : Config) (c d : Byte) (rest : List Byte) :
    printText cfg (c :: d :: rest) = charSend cfg c ++ printPause cfg ++ printText cfg (d :: rest) := rfl

end Sys2Proof.Machine
end

