-- ==== Sys2Proof/Machine/Wire.lean ====
section
/-!
DEFINITION. The I2C frame of a transaction (20_memory.md R44), for a pin-level refinement. The machine does not work at this level and no
rule depends on it (R2, R44); the framing is general knowledge, not the source's (notes/assumptions/8.md).
-/
namespace Sys2Proof.Machine

/-- What a frame is made of (R44). -/
inductive WireSymbol where
  /-- `S`. -/
  | start
  /-- `Sr`. -/
  | repeatedStart
  /-- `P`. -/
  | stop
  /-- `NACK`. -/
  | nack
  /-- A byte. -/
  | byte (b : Byte)
  deriving DecidableEq, Repr

/-- `(dev << 1) | r`: the address byte of a frame, with its read bit (R44). -/
def addressByte (a : BusAddr) (read : Bool) : Byte :=
  (a ++ BitVec.ofBool read : BitVec 8)

/-- The frame of a `write` (R44): register address first, value second (R42). -/
def writeFrame (cfg : Config) (d : Device) (reg v : Byte) : List WireSymbol :=
  [.start, .byte (addressByte (cfg.busAddr d) false), .byte reg, .byte v, .stop]

/-- The frame of a `writeThenRead` that returns `x`, with a repeated start or with a stop and a start between its halves
(R44, `READ_REPEATED_START`). -/
def readFrame (cfg : Config) (d : Device) (reg x : Byte) : List WireSymbol :=
  [.start, .byte (addressByte (cfg.busAddr d) false), .byte reg]
    ++ (if cfg.readRepeatedStart then [.repeatedStart] else [.stop, .start])
    ++ [.byte (addressByte (cfg.busAddr d) true), .byte x, .nack, .stop]

/-- A byte on the wire, most significant bit first (R44). -/
def wireBits (b : Byte) : List Bool :=
  [b.getLsbD 7, b.getLsbD 6, b.getLsbD 5, b.getLsbD 4, b.getLsbD 3, b.getLsbD 2, b.getLsbD 1, b.getLsbD 0]

end Sys2Proof.Machine
end

