-- ==== Sys2Proof/Tests/Slice0.lean ====
section
/-!
SUPPORT. The model's own tests, on the values 95_test_vectors.md and the tables of 30_encoding.md give, and one witness for the
hypotheses of every statement that has any. Each is about one decoding, one expansion or one step.
-/
namespace Sys2Proof.Tests

open Sys2Proof Sys2Proof.Machine

/-! ### Small states -/

/-- `S0` with the reference configuration (95_test_vectors.md). -/
def s0 : State := { State.reset with cfg := Config.ref }

/-- After G1: the LCD device configured. -/
def sG : State := { s0 with configuredLcd := true }

/-- The flags and the port-B level of `SB`, the state after BOOT; its trace is left out. -/
def sB : State := { sG with configuredPanel := true, lcdReady := true, shadow := [(256 + 0x13, 0x08)] }

/-- `s` with a request in progress, about to perform micro-op `n`. -/
def during (s : State) (i : Instr) (n : Nat) : State :=
  { s with busy := true, req := some (requestOf s.cfg i), uops := expand s.cfg i, upc := n }

/-- `s` with the bus about to give these answers. -/
def answering (s : State) (as : List BusAnswer) : State := { s with answers := as }

/-- `s` with a request on the link. -/
def given (s : State) (r : Request) : State := { s with link := r.serial }

/-- A success with a byte. -/
def good (b : Byte) : BusAnswer := { ok := true, byte := b }

/-- A transport failure. -/
def bad : BusAnswer := { ok := false, byte := 0 }

/-- After L31: a faulted block. -/
def sF : State :=
  { s0 with fault := some { cause := .notConfigured, reqWord := 0x800000, upc := 0, txn := none }
            trace := [.req 0x800000 [], .flt .notConfigured] }

/-- A draw at the first write to the display: a level with every line high, and a nibble no write of these tests carries. -/
def drawn : FirstDraw := { level := 0xFF, latch := { sel := .data, n := 0xB } }

/-- The next state, where there is one. -/
def after : Host.Outcome State Fault Refusal → Option State
  | .next s => some s
  | .fault _ => none
  | .refused _ => none

/-- The values of the writes and the delays of an expansion, in order, as the LCD vectors list them: a write as its value, a
delay as 1000 plus its milliseconds. -/
def listed (us : List MicroOp) : List Nat :=
  us.map fun u => match u with | .busWrite _ _ v => v.toNat | .busRead _ _ => 2000 | .delay ms => 1000 + ms

/-! ### WellFormed -/

/-- A payload of 256 bytes is refused (R73: 0 to 255 are legal). -/
theorem test_wellFormed_refuses_long_payload : WellFormed (.lcdPrint (List.replicate 256 0x20)) = false := by
  rw [WellFormed, List.length_replicate]
  decide

/-- A payload of 255 bytes is accepted (R73). -/
theorem test_wellFormed_accepts_longest_payload : WellFormed (.lcdPrint (List.replicate 255 0x20)) = true := by
  rw [WellFormed, List.length_replicate]
  decide

/-! ### Decoding: words written out from R61 and R62, field by field -/

theorem test_decode_busWrite : decodeRequest ⟨0b000110000001001110101010, []⟩ = .ok (.busWrite .lcd 0x13 0xAA) := by decide
theorem test_decode_busRead : decodeRequest ⟨0b001000000001001000000000, []⟩ = .ok (.busRead .panel 0x12) := by decide
theorem test_decode_expConfig : decodeRequest ⟨0b001110000000000000000000, []⟩ = .ok (.expConfig .lcd) := by decide
theorem test_decode_lcdNibble : decodeRequest ⟨0b010000000000010010000000, []⟩ = .ok (.lcdNibble .data 0x4) := by decide
theorem test_decode_lcdInstrNibble : decodeRequest ⟨0b010100000000001100000000, []⟩ = .ok (.lcdInstrNibble 0x3) := by decide
theorem test_decode_lcdInstrByte : decodeRequest ⟨0b011000000010100000000000, []⟩ = .ok (.lcdInstrByte 0x28) := by decide
theorem test_decode_lcdChar : decodeRequest ⟨0b011100000100000100000000, []⟩ = .ok (.lcdChar 0x41) := by decide
theorem test_decode_lcdInit : decodeRequest ⟨0b100000000000000000000000, []⟩ = .ok .lcdInit := by decide
theorem test_decode_lcdClearHome : decodeRequest ⟨0b100100000000000000000000, []⟩ = .ok .lcdClearHome := by decide
theorem test_decode_lcdSetLine : decodeRequest ⟨0b101000000000000100000000, []⟩ = .ok (.lcdSetLine 1) := by decide
theorem test_decode_lcdPrint :
    decodeRequest ⟨0b101100000000001000000000, [0x48, 0x49]⟩ = .ok (.lcdPrint [0x48, 0x49]) := by decide
theorem test_decode_panelReadButtons : decodeRequest ⟨0b110000000000000000000000, []⟩ = .ok .panelReadButtons := by decide
theorem test_decode_panelWriteLights :
    decodeRequest ⟨0b110100000001000100000000, []⟩ = .ok (.panelWriteLights 0x11) := by decide

/-- The display codes of R70, and a character and a port-B byte (R120, R66). -/
theorem test_decode_display_codes :
    decode Config.ref (.lcdNibble 0b0011) = .ok .init8bit ∧ decode Config.ref (.lcdNibble 0b0010) = .ok .set4bit ∧
    decode Config.ref (.lcdInstr 0b00101000) = .ok .functionSet ∧
    decode Config.ref (.lcdInstr 0b00001100) = .ok .displayOnCursorOff ∧
    decode Config.ref (.lcdInstr 0b00000110) = .ok .entryModeInc ∧
    decode Config.ref (.lcdInstr 0b00000001) = .ok .clearDisplay ∧
    decode Config.ref (.lcdInstr 0b00000010) = .ok .returnHome ∧
    decode Config.ref (.lcdInstr 0b11000000) = .ok (.setDdramAddr 64) ∧
    decode Config.ref (.lcdData 0b01000001) = .ok (.writeData 0x41) ∧
    decode Config.ref (.portb 0b10100100) = .ok (.portbByte .data 0x4 true) := by decide

/-- Codes of no row. -/
theorem test_decode_no_display_code :
    decode Config.ref (.lcdNibble 0x1) = .illegal .notADisplayCode ∧
    decode Config.ref (.lcdInstr 0x03) = .illegal .notADisplayCode ∧
    decode Config.ref (.portb 0x40) = .illegal .notAPortByte := by decide

/-- The illegal words of section 2.1, each by the reason R75 gives. -/
theorem test_decode_illegal_words :
    decodeRequest ⟨0x2012FF, []⟩ = .illegal .operandBits ∧ decodeRequest ⟨0x300001, []⟩ = .illegal .operandBits ∧
    decodeRequest ⟨0x400401, []⟩ = .illegal .selector ∧ decodeRequest ⟨0x401000, []⟩ = .illegal .operandBits ∧
    decodeRequest ⟨0x501300, []⟩ = .illegal .operandBits ∧ decodeRequest ⟨0x880000, []⟩ = .illegal .deviceBit ∧
    decodeRequest ⟨0xC00100, []⟩ = .illegal .operandBits ∧ decodeRequest ⟨0xD81100, []⟩ = .illegal .deviceBit := by
  decide

theorem test_decode_reserved :
    decodeRequest ⟨0x000000, []⟩ = .illegal .reservedOpcode ∧ decodeRequest ⟨0x0FFFFF, []⟩ = .illegal .reservedOpcode ∧
    decodeRequest ⟨0xE00000, []⟩ = .illegal .reservedOpcode ∧
    decodeRequest ⟨0xFFFFFF, []⟩ = .illegal .reservedOpcode ∧ decodeRequest ⟨0x110000, []⟩ = .illegal .reservedBits ∧
    decodeRequest ⟨0x210000, []⟩ = .illegal .reservedBits ∧ decodeRequest ⟨0x340000, []⟩ = .illegal .reservedBits := by
  decide

/-- A payload of another length than the word's N is no instruction (R73). -/
theorem test_decode_wrong_payload :
    decodeRequest ⟨0xB00200, [0x48]⟩ = .illegal .payloadLength ∧
    decodeRequest ⟨0x800000, [0x48]⟩ = .illegal .payloadLength := by decide

/-- The same words, read as the opcode table numbers their bits. -/
theorem test_decodeTableWord :
    decodeTableWord 24 0x1813AA = some (.busWrite .lcd 0x13 0xAA) ∧ decodeTableWord 24 0xB00000 = some (.lcdPrint []) ∧
    decodeTableWord 24 0x4948B00200 = some (.lcdPrint [0x48, 0x49]) ∧ decodeTableWord 8 0x3 = some .init8bit ∧
    decodeTableWord 4 0x2 = some .set4bit ∧ decodeTableWord 8 0x28 = some .functionSet ∧
    decodeTableWord 8 0x80 = some (.setDdramAddr 0) ∧ decodeTableWord 8 0x41 = some (.writeData 0x41) ∧
    decodeTableWord 24 0xE00000 = none := by decide

/-! ### The remap, the port-B byte and the link (R65, R67, R73, R74) -/

/-- W1. -/
theorem test_remap_table :
    ([0x0, 0x1, 0x2, 0x3, 0x4, 0x5, 0x6, 0x7, 0x8, 0x9, 0xA, 0xB, 0xC, 0xD, 0xE, 0xF] : List Nibble).map remap =
      [0x00, 0x10, 0x08, 0x18, 0x04, 0x14, 0x0C, 0x1C, 0x02, 0x12, 0x0A, 0x1A, 0x06, 0x16, 0x0E, 0x1E] := by decide

/-- The rows 0x5 and 0xE of R67's table, and the other enable positions (V-INIT). -/
theorem test_portb_bytes :
    portb Config.ref .instr 0x5 true = 0x34 ∧ portb Config.ref .instr 0x5 false = 0x14 ∧
    portb Config.ref .data 0xE true = 0xAE ∧ portb Config.ref .data 0xE false = 0x8E ∧
    portb { Config.ref with enMask := 0x40 } .instr 0x3 true = 0x58 ∧
    portb { Config.ref with enMask := 0x01 } .instr 0x3 true = 0x19 := by decide

/-- The bytes of BOOT and of LCD_LINE 1, "HI" on the link (P1, P2). -/
theorem test_serial_bytes :
    serialProgram Config.ref (pseudoExpansion .boot) = [0x38, 0x00, 0x00, 0x30, 0x00, 0x00, 0x80, 0x00, 0x00] ∧
    serialProgram Config.ref (pseudoExpansion (.lcdLine 1 [0x48, 0x49])) =
      [0xA0, 0x01, 0x00, 0xB0, 0x02, 0x00, 0x48, 0x49] := by decide

/-- Lengths on the link (section 2.1): 3 bytes with N = 0, 5 with N = 2, 258 with N = 255. -/
theorem test_request_lengths :
    (requestOf Config.ref (.lcdPrint [])).serial.length = 3 ∧
    (requestOf Config.ref (.lcdPrint [0x48, 0x49])).serial.length = 5 ∧
    (requestOf Config.ref (.lcdPrint (List.replicate 255 0x20))).serial.length = 258 := by
  simp only [requestOf, Request.serial, List.length_cons, List.length_replicate, List.length_nil]
  decide

/-- Lines of R76. -/
theorem test_request_text :
    requestText (.busWrite .lcd 0x13 0xAA) = some "BUS_WRITE lcd, 0x13, 0xAA" ∧
    requestText (.lcdNibble .data 0x4) = some "LCD_NIBBLE data, 0x4" := by decide

/-- Frames of R44 with the reference addresses: the address byte is `(dev << 1) | r`. -/
theorem test_wire_frames :
    writeFrame Config.ref .lcd 0x13 0x38 = [.start, .byte 0x42, .byte 0x13, .byte 0x38, .stop] ∧
    readFrame Config.ref .panel 0x12 0x03 =
      [.start, .byte 0x40, .byte 0x12, .repeatedStart, .byte 0x41, .byte 0x03, .nack, .stop] := by decide

/-! ### Expansions (section 2.4) -/

/-- L4. -/
theorem test_expand_lcdNibble : listed (expand Config.ref (.lcdNibble .data 0x4)) = [0xA4, 0x84] := by decide

/-- L5. -/
theorem test_expand_lcdInstrNibble : listed (expand Config.ref (.lcdInstrNibble 0x3)) = [0x38, 0x18] := by decide

/-- L7, L11. -/
theorem test_expand_lcdInstrByte :
    listed (expand Config.ref (.lcdInstrByte 0x28)) = [0x28, 0x08, 0x22, 0x02] ∧
    listed (expand Config.ref (.lcdInstrByte 0xFF)) = [0x3E, 0x1E, 0x3E, 0x1E] := by decide

/-- L13, L17. -/
theorem test_expand_lcdChar :
    listed (expand Config.ref (.lcdChar 0x41)) = [0xA4, 0x84, 0xB0, 0x90, 1001] ∧
    listed (expand Config.ref (.lcdChar 0x7E)) = [0xBC, 0x9C, 0xAE, 0x8E, 1001] := by decide

/-- V-INIT. -/
theorem test_expand_lcdInit :
    listed (expand Config.ref .lcdInit) =
      [0x38, 0x18, 1004, 0x38, 0x18, 0x38, 0x18, 0x28, 0x08, 0x28, 0x08, 0x22, 0x02, 0x20, 0x00, 0x26, 0x06, 0x20, 0x00,
       0x2C, 0x0C, 0x20, 0x00, 0x30, 0x10, 1001, 0x20, 0x00, 0x28, 0x08, 1001] := by decide

/-- V-INIT with `INIT_FINAL_HOME = false`: 24 writes and 2 delays. -/
theorem test_expand_lcdInit_no_home :
    (listed (expand { Config.ref with initFinalHome := false } .lcdInit)).length = 26 ∧
    busCount (expand { Config.ref with initFinalHome := false } .lcdInit) = 24 := by decide

/-- L18. -/
theorem test_expand_lcdClearHome :
    listed (expand Config.ref .lcdClearHome) = [0x20, 0x00, 0x30, 0x10, 1001, 0x20, 0x00, 0x28, 0x08, 1001] := by decide

/-- W2: lines 0 to 3. -/
theorem test_expand_lcdSetLine :
    ([0, 1, 2, 3] : List Byte).map (fun l => listed (expand Config.ref (.lcdSetLine l))) =
      [[0x22, 0x02, 0x20, 0x00], [0x26, 0x06, 0x20, 0x00], [0x32, 0x12, 0x24, 0x04], [0x36, 0x16, 0x24, 0x04]] := by decide

/-- W2: lines 4 and 255 send nothing. -/
theorem test_expand_lcdSetLine_outside :
    expand Config.ref (.lcdSetLine 4) = [] ∧ expand Config.ref (.lcdSetLine 255) = [] := by decide

/-- L19, L20. -/
theorem test_expand_lcdPrint :
    listed (expand Config.ref (.lcdPrint [0x48, 0x49])) =
      [0xA4, 0x84, 0xA2, 0x82, 1001, 0xA4, 0x84, 0xB2, 0x92, 1001] ∧ expand Config.ref (.lcdPrint []) = [] := by decide

/-- L21: with `PRINT_EXTRA_MS = 1`. -/
theorem test_expand_lcdPrint_extra :
    listed (expand { Config.ref with printExtraMs := 1 } (.lcdPrint [0x48, 0x49])) =
      [0xA4, 0x84, 0xA2, 0x82, 1001, 1001, 0xA4, 0x84, 0xB2, 0x92, 1001] := by decide

/-- G1. -/
theorem test_expand_expConfig :
    expand Config.ref (.expConfig .lcd) =
      [.busWrite .lcd 0x00 0xFF, .busWrite .lcd 0x02 0xFF, .busWrite .lcd 0x0C 0xFF, .busWrite .lcd 0x01 0x00,
       .busWrite .lcd 0x13 0x00] := by decide

/-- The display codes, as R70's table says they are sent. -/
theorem test_expand_display_codes :
    listed (expand Config.ref .init8bit) = [0x38, 0x18] ∧ listed (expand Config.ref .set4bit) = [0x28, 0x08] ∧
    listed (expand Config.ref .functionSet) = [0x28, 0x08, 0x22, 0x02] ∧
    listed (expand Config.ref .displayOnCursorOff) = [0x20, 0x00, 0x26, 0x06] ∧
    listed (expand Config.ref .entryModeInc) = [0x20, 0x00, 0x2C, 0x0C] ∧
    listed (expand Config.ref .clearDisplay) = [0x20, 0x00, 0x30, 0x10] ∧
    listed (expand Config.ref .returnHome) = [0x20, 0x00, 0x28, 0x08] ∧
    listed (expand Config.ref (.setDdramAddr 20)) = [0x32, 0x12, 0x24, 0x04] ∧
    listed (expand Config.ref (.writeData 0x41)) = [0xA4, 0x84, 0xB0, 0x90, 1001] ∧
    listed (expand Config.ref (.portbByte .data 0x4 true)) = [0xA4] := by decide

/-! ### One step -/

/-- B1: the one micro-op of a BUS_WRITE. -/
theorem test_step_busWrite :
    let t := after (step (answering (during s0 (.busWrite .lcd 0x13 0xAA) 0) [good 0]))
    t.map State.trace = some [.wr .lcd 0x13 0xAA true, .done none] ∧
      t.map (fun t => t.shadowAt .lcd 0x13) = some (some 0xAA) ∧ t.map State.busy = some false := by decide

/-- B5: it fails. -/
theorem test_step_busWrite_fails :
    let t := after (step (answering (during s0 (.busWrite .panel 0x13 0x11) 0) [bad]))
    t.map State.trace = some [.wr .panel 0x13 0x11 false, .flt .fatalIO] ∧
      t.map State.fault = some (some { cause := .fatalIO, reqWord := 0x101311, upc := 0
                                       txn := some { kind := .write, dev := .panel, reg := 0x13, value := some 0x11 } }) ∧
      t.map (fun t => t.shadowAt .panel 0x13) = some none := by decide

/-- B3. -/
theorem test_step_busRead :
    (after (step (answering (during s0 (.busRead .lcd 0xFF) 0) [good 0x5A]))).map State.trace =
      some [.rd .lcd 0xFF (some 0x5A), .done (some 0x5A)] := by decide

/-- B6: it fails. -/
theorem test_step_busRead_fails :
    (after (step (answering (during s0 (.busRead .panel 0x12) 0) [bad]))).map State.fault =
      some (some { cause := .fatalIO, reqWord := 0x201200, upc := 0
                   txn := some { kind := .read, dev := .panel, reg := 0x12, value := none } }) := by decide

/-- G2: a second configuration. -/
theorem test_step_reconfigure :
    (after (step (given sG (requestOf Config.ref (.expConfig .lcd))))).map State.fault =
      some (some { cause := .reconfigure, reqWord := 0x380000, upc := 0, txn := none }) := by decide

/-- G3: the third write fails. -/
theorem test_step_expConfig_fails :
    let t := after (step (answering (during s0 (.expConfig .panel) 2) [bad]))
    t.map State.fault = some (some { cause := .fatalIO, reqWord := 0x300000, upc := 2
                                     txn := some { kind := .write, dev := .panel, reg := 0x0C, value := some 0xFF } }) ∧
      t.map State.configuredPanel = some false := by decide

/-- L30: a character before initialization. -/
theorem test_step_notInitialized :
    let t := after (step (given s0 (requestOf Config.ref (.lcdChar 0x41))))
    t.map State.trace = some [.req 0x704100 [], .flt .notInitialized] ∧
      t.map State.fault = some (some { cause := .notInitialized, reqWord := 0x704100, upc := 0, txn := none }) := by decide

/-- L31, P6v: LCD_INIT and a PANEL request need their own device configured. -/
theorem test_step_notConfigured :
    (after (step (given s0 (requestOf Config.ref .lcdInit)))).map (fun t => t.fault.map FaultRecord.cause) =
      some (some .notConfigured) ∧
    (after (step (given sG (requestOf Config.ref (.panelWriteLights 0x11))))).map (fun t => t.fault.map FaultRecord.cause) =
      some (some .notConfigured) := by decide

/-- W2, L20: LCD_SET_LINE 4 and an empty print complete in the step that accepts them. -/
theorem test_step_empty_requests :
    (after (step (given sB (requestOf Config.ref (.lcdSetLine 4))))).map State.trace = some [.req 0xA00400 [], .done none] ∧
    (after (step (given sB (requestOf Config.ref (.lcdPrint []))))).map State.trace =
      some [.req 0xB00000 [], .done none] := by decide

/-- P1v: a read of the buttons. -/
theorem test_step_readButtons :
    (after (step (answering (during sB .panelReadButtons 0) [good 0x03]))).map State.trace =
      some [.rd .panel 0x12 (some 0x03), .done (some 0x03)] := by decide

/-- P3v: a write of the lights. -/
theorem test_step_writeLights :
    (after (step (answering (during sB (.panelWriteLights 0x11) 0) [good 0]))).map State.trace =
      some [.wr .panel 0x13 0x11 true, .done none] := by decide

/-- F1: a request while a print is at its fourth micro-op. -/
theorem test_step_overlap :
    let t := after (step { during sB (.lcdPrint [0x48, 0x49]) 3 with turns := [.host], link := [0xC0, 0x00, 0x00] })
    t.map State.trace = some [.req 0xC00000 [], .flt .overlap] ∧ t.map State.uops = some [] ∧
      t.map State.fault = some (some { cause := .overlap, reqWord := 0xC00000, upc := 3, txn := none }) := by decide

/-- F2, F3: an illegal word while busy is an overlap; an illegal LCD_INIT before configuration is illegal. -/
theorem test_step_priority :
    (after (step { during sB (.lcdPrint [0x48]) 3 with turns := [.host], link := [0xE0, 0x00, 0x00] })).map
      (fun t => t.fault.map FaultRecord.cause) = some (some .overlap) ∧
    (after (step { s0 with link := [0x88, 0x00, 0x00] })).map State.trace =
      some [.req 0x880000 [], .flt .illegalRequest] := by decide

/-- F4: a request after a fault. -/
theorem test_step_faulted :
    let t := after (step { sF with link := [0x38, 0x00, 0x00] })
    t.map State.trace = some [.req 0x800000 [], .flt .notConfigured, .req 0x380000 [], .fltFaulted] ∧
      t.map State.fault = some sF.fault := by decide

/-- F5: reset. -/
theorem test_step_reset : after (step { sF with turns := [.reset] }) = some s0 := by decide

/-- A delay is recorded and ends (R52). -/
theorem test_step_delay :
    (after (step (during sG .lcdInit 2))).map State.trace = some [.dl 4] ∧
    (after (step (during sG .lcdInit 2))).map State.upc = some 3 := by decide

/-- The last delay of LCD_INIT sets `lcd_ready` (R126). -/
theorem test_step_init_completes :
    (after (step (during sG .lcdInit 30))).map State.lcdReady = some true ∧
    (after (step (during sG .lcdInit 30))).map State.trace = some [.dl 1, .done none] := by decide

/-- Half a request on the link: nothing arrives (R73). -/
theorem test_step_half_request :
    after (step { sB with link := [0xB0, 0x02, 0x00, 0x48] }) = some { sB with link := [0xB0, 0x02, 0x00, 0x48] } := by decide

/-- What `withFetchWord` places, the next step submits, from reset. -/
theorem test_step_withFetchWord :
    (after (step (State.reset.withFetchWord 24 0x1813AA))).map State.trace = some [.req 0x1813AA []] ∧
    (after (step (s0.withFetchWord 8 0x28))).map State.trace = some [.req 0x602800 [], .flt .notInitialized] := by decide

/-- The host's merge of section 2.5, and the word it then submits. -/
theorem test_mergeLights :
    mergeLights 0x35 0xF0 0x80 = 0x85 ∧ (requestOf Config.ref (.panelWriteLights 0x85)).word = 0xD08500 := by decide

/-! ### The latch observation (section 2.7) -/

/-- The five rows of the table, from the level 0x08. -/
theorem test_latches :
    latchesFrom Config.ref 0x08 [0x38, 0x18] = [{ sel := .instr, n := 0x3 }] ∧
    latchesFrom Config.ref 0x08 [0x38, 0x38, 0x18] = [{ sel := .instr, n := 0x3 }] ∧
    latchesFrom Config.ref 0x08 [0x18, 0x10] = [] ∧
    latchesFrom Config.ref 0x08 [0xB0, 0x10] = [{ sel := .instr, n := 0x1 }] ∧
    latchesFrom Config.ref 0x08 [0x38] = [] := by decide

/-- R203's hazard: the first 0x00 write after reset latches or not, by the unknown level before it, and what it latches is any
nibble. -/
theorem test_first_latch_is_open :
    latched Config.ref { drawn with level := 0x3E } [.wr .lcd 0x13 0x00 true] = [{ sel := .data, n := 0xB }] ∧
    latched Config.ref { drawn with level := 0x3E, latch := { sel := .instr, n := 0x6 } } [.wr .lcd 0x13 0x00 true] =
      [{ sel := .instr, n := 0x6 }] ∧
    latched Config.ref { drawn with level := 0x1E } [.wr .lcd 0x13 0x00 true] = [] := by decide

/-- Only the first latch is open: after EXP_CONFIG lcd an instruction nibble is latched as itself. -/
theorem test_second_latch_is_fixed :
    latched Config.ref { drawn with level := 0x3E }
      (uopEvents (expand Config.ref (.expConfig .lcd) ++ expand Config.ref (.lcdInstrNibble 0x3)) []) =
      [{ sel := .data, n := 0xB }, { sel := .instr, n := 0x3 }] := by decide

/-- W3: the bytes formed from the fifth nibble of an LCD_INIT onwards. -/
theorem test_init_bytes :
    bytesSinceInit Config.ref drawn ([.req 0x800000 []] ++ uopEvents (expand Config.ref .lcdInit) []) =
      some [0x28, 0x0C, 0x06, 0x01, 0x02] ∧
    bytesSinceInit Config.ref drawn [] = none := by decide

/-- The byte 0x38 is none of R70's, and LCD_INSTR_BYTE (R116) sends it all the same, so a reader forms it (R69). -/
theorem test_byte_outside_the_list :
    pairBytes (latched Config.ref drawn (uopEvents (expand Config.ref (.lcdInstrByte 0x38)) [])) = [0x38] ∧
    pairCode { sel := .instr, n := 0x3 } { sel := .instr, n := 0x8 } = .illegal .notADisplayCode := by decide

/-- P2: the pairs latched after BOOT, as bytes; and a pair of unequal selectors has its byte too. -/
theorem test_latched_bytes :
    pairBytes [{ sel := .instr, n := 0xC }, { sel := .instr, n := 0x0 }, { sel := .data, n := 0x4 }, { sel := .data, n := 0x8 },
      { sel := .data, n := 0x4 }, { sel := .data, n := 0x9 }] = [0xC0, 0x48, 0x49] ∧
    pairBytes [{ sel := .instr, n := 0x4 }, { sel := .data, n := 0x1 }, { sel := .data, n := 0x4 }] = [0x41] := by decide

/-- P4b: after a failed write of an LCD_INIT the nibble phase is unknown; after a lone instruction nibble following a whole
LCD_INIT it is low. -/
theorem test_nibble_phase :
    nibblePhase Config.ref drawn [.req 0x800000 [], .wr .lcd 0x13 0x38 true, .wr .lcd 0x13 0x18 false, .flt .fatalIO] = none ∧
    nibblePhase Config.ref drawn ([.req 0x800000 []] ++ uopEvents (expand Config.ref .lcdInit ++ expand Config.ref (.lcdInstrNibble 0x3)) [])
      = some .low := by decide

/-- F1, F4: an LCD_INIT word refused with Overlap or Faulted begins nothing, and the bytes since the one that did stay read. -/
theorem test_refused_init_begins_nothing :
    let tr := [Event.req 0x800000 []] ++ uopEvents (expand Config.ref .lcdInit) []
    bytesSinceInit Config.ref drawn (tr ++ [.req 0x800000 [], .flt .overlap, .req 0x800000 [], .fltFaulted]) =
      some [0x28, 0x0C, 0x06, 0x01, 0x02] ∧
    bytesSinceInit Config.ref drawn [.req 0x800000 [], .flt .notConfigured] = none := by decide

/-- The interface mode is the draw at power-on (R191) and after P4b's failed write, and 4-bit after an LCD_INIT (R204). -/
theorem test_interface_mode :
    interfaceMode Config.ref drawn .eightBit [] = .eightBit ∧ interfaceMode Config.ref drawn .fourBit [] = .fourBit ∧
    interfaceMode Config.ref drawn .eightBit
      [.req 0x800000 [], .wr .lcd 0x13 0x38 true, .wr .lcd 0x13 0x18 false, .flt .fatalIO] = .eightBit ∧
    interfaceMode Config.ref drawn .eightBit ([.req 0x800000 []] ++ uopEvents (expand Config.ref .lcdInit) []) = .fourBit := by
  decide

/-- The levels of the display lines are known once the LCD device is configured (R31). -/
theorem test_levels :
    sB.lcdLevels = some 0x08 ∧ sB.enableLevel = some false ∧ { s0 with shadow := sB.shadow }.lcdLevels = none := by decide

/-! ### Witnesses: each statement's hypotheses are met -/

theorem test_hyp_DecodeOfEncode : Config.ref.wf ∧ WellFormed (.lcdPrint (List.replicate 255 0x20)) = true :=
  ⟨by decide, test_wellFormed_accepts_longest_payload⟩

theorem test_hyp_EncodeOfDecode : decode Config.ref (.portb 0xA4) = .ok (.portbByte .data 0x4 true) := by decide

theorem test_hyp_RequestWordSelectsRow :
    ([0x48] : List Byte).length = payloadLength 0xB00100 ∧ ((0xB00000, 0xFF00FF) : ReqWord × ReqWord) ∈ requestRows ∧
      (0xB00100 : ReqWord) &&& 0xFF00FF = 0xB00000 := by decide

theorem test_hyp_RequestRowsDisjoint :
    ((0x800000, 0xFFFFFF) : ReqWord × ReqWord) ∈ requestRows ∧ (0x800000 : ReqWord) &&& 0xFFFFFF = 0x800000 := by decide

/-- One word for each of the 13 clauses, with its operand fields at their greatest values. -/
theorem test_hyp_OperandsComeFromTheFields :
    ([(0x18FFFF, 0xF70000, 0x100000), (0x28FF00, 0xF700FF, 0x200000), (0x380000, 0xF7FFFF, 0x300000),
        (0x400F80, 0xFFF07F, 0x400000), (0x500F00, 0xFFF0FF, 0x500000), (0x60FF00, 0xFF00FF, 0x600000),
        (0x70FF00, 0xFF00FF, 0x700000), (0x800000, 0xFFFFFF, 0x800000), (0x900000, 0xFFFFFF, 0x900000),
        (0xA0FF00, 0xFF00FF, 0xA00000), (0xC00000, 0xFFFFFF, 0xC00000), (0xD0FF00, 0xFF00FF, 0xD00000)]
        : List (ReqWord × ReqWord × ReqWord)).all (fun x => x.1 &&& x.2.1 == x.2.2 && payloadLength x.1 == 0) = true := by decide

theorem test_hyp_OperandsComeFromTheFields_print :
    (List.replicate 255 (0x20 : Byte)).length = payloadLength 0xB0FF00 ∧ (0xB0FF00 : ReqWord) &&& 0xFF00FF = 0xB00000 :=
  ⟨by rw [List.length_replicate]; decide, by decide⟩

theorem test_hyp_SerialLinkFramesRequests :
    ([0x48, 0x49] : List Byte).length = payloadLength 0xB00200 ∧ ([] : List Byte).length = payloadLength 0x380000 := by decide

/-- Each legal enable position. -/
theorem test_hyp_PortBByteFields :
    Config.ref.wf ∧ { Config.ref with enMask := 0x01 }.wf ∧ { Config.ref with enMask := 0x40 }.wf := by decide

theorem test_hyp_BusRequestsAccepted : Ready s0 := by decide

theorem test_hyp_ExpConfigAccepted : Ready s0 ∧ s0.configured .lcd = false ∧ s0.configured .panel = false := by decide

theorem test_hyp_ExpConfigReconfigures : Ready sB ∧ sB.configured .lcd = true ∧ sB.configured .panel = true := by decide

theorem test_hyp_NibbleRequestsAccepted : Ready sB ∧ sB.lcdReady = true := by decide

theorem test_hyp_InstrByteAccepted : Ready sB ∧ sB.lcdReady = true := by decide

theorem test_hyp_CharAccepted : Ready sB ∧ sB.lcdReady = true := by decide

theorem test_hyp_InitAccepted : Ready sG ∧ sG.configuredLcd = true := by decide

theorem test_hyp_ClearHomeAccepted : Ready sB ∧ sB.lcdReady = true := by decide

/-- The first and the last line. -/
theorem test_hyp_SetLineAccepted :
    Ready sB ∧ sB.lcdReady = true ∧
      ((0, 0x80) : Byte × Byte) ∈ ([(0, 0x80), (1, 0xC0), (2, 0x94), (3, 0xD4)] : List (Byte × Byte)) ∧
      ((3, 0xD4) : Byte × Byte) ∈ ([(0, 0x80), (1, 0xC0), (2, 0x94), (3, 0xD4)] : List (Byte × Byte)) := by decide

/-- The least and the greatest line outside 0 to 3. -/
theorem test_hyp_EmptyRequestsCompleteAtOnce :
    Ready sB ∧ sB.lcdReady = true ∧ sB.atRest = true ∧ (4 : Byte) ≤ 4 ∧ (4 : Byte) ≤ 255 := by decide

theorem test_hyp_PrintAccepted : Ready sB ∧ sB.lcdReady = true := by decide

theorem test_hyp_PanelRequestsAccepted : Ready sB ∧ sB.configuredPanel = true := by decide

theorem test_hyp_DisplayCodesAccepted : Ready sB ∧ sB.lcdReady = true := by decide

theorem test_hyp_PortBByteAccepted : Ready s0 := by decide

/-- Both clauses, and an initialized state of the invariant for the third. -/
theorem test_hyp_LcdRequestsNeedInitialization :
    Ready s0 ∧ s0.lcdReady = false ∧ s0.configuredLcd = false ∧ Ready sB ∧ Inv sB ∧ sB.lcdReady = true := by decide

theorem test_hyp_PanelRequestsNeedConfiguration :
    Ready sG ∧ sG.configuredPanel = false ∧ Ready sB ∧ sB.configuredPanel = true := by decide

/-- A failed precondition of each of the three causes. -/
theorem test_hyp_RequestChecksInOrder :
    precondition sB (.expConfig .lcd) = some .reconfigure ∧ precondition s0 .lcdInit = some .notConfigured ∧
      precondition sG .lcdClearHome = some .notInitialized := by decide

theorem test_hyp_FaultedBlockRefuses : sF.fault.isSome = true := by decide

theorem test_hyp_OverlapAbandonsTheRequest :
    (during sB .lcdClearHome 3).fault = none ∧ (during sB .lcdClearHome 3).busy = true := by decide

theorem test_hyp_SubmissionFrame : ∃ t, exec (.lcdChar 0x41) sB = .next t := ⟨_, rfl⟩

/-- A host turn with a whole request that decodes, one with half a request, and a block turn. -/
theorem test_hyp_StepRunsTheDecodedRequest :
    { sB with link := [0xC0, 0x00, 0x00] }.mover = .host ∧
      takeRequest [0xC0, 0x00, 0x00] = some (⟨0xC00000, []⟩, []) ∧
      decodeRequest ⟨0xC00000, []⟩ = .ok .panelReadButtons ∧
      { sB with link := [0xC0, 0x00] }.mover = .host ∧ takeRequest [0xC0, 0x00] = none ∧
      (during sB .lcdClearHome 0).mover = .block := by decide

/-- A host turn with an illegal word on the link, of a busy block and of a faulted one. -/
theorem test_hyp_StepRunsTheDecodedRequest_illegal :
    let s := { during sB .lcdClearHome 3 with turns := [.host], link := [0xE0, 0x00, 0x00] }
    let s' := { sF with link := [0xE0, 0x00, 0x00] }
    s.busy = true ∧ s.mover = .host ∧ s'.fault.isSome = true ∧ s'.mover = .host ∧
      takeRequest [0xE0, 0x00, 0x00] = some (⟨0xE00000, []⟩, []) ∧
      decodeRequest ⟨0xE00000, []⟩ = .illegal .reservedOpcode := by decide

theorem test_hyp_IllegalWordsFault :
    Ready { s0 with link := [0xE0, 0x00, 0x00] } ∧ { s0 with link := [0xE0, 0x00, 0x00] }.mover = .host ∧
      takeRequest [0xE0, 0x00, 0x00] = some (⟨0xE00000, []⟩, []) ∧
      ∀ m k, (m, k) ∈ requestRows → (0xE00000 : ReqWord) &&& k ≠ m := by
  refine ⟨by decide, by decide, by decide, fun m k h => ?_⟩
  have h' : requestRows.all (fun p => 0xE00000 &&& p.2 != p.1) = true := by decide
  simpa using List.all_eq_true.mp h' (m, k) h

/-- A success and a failure, and another location. -/
theorem test_hyp_WriteMicroOp :
    (answering sB [good 0]).shadow.wf ∧ (answering sB [good 0]).nextAnswer.ok = true ∧
      (answering sB [bad]).nextAnswer.ok = false ∧ ¬((Device.panel = .lcd) ∧ (0x13 : Byte) = 0x13) := by decide

theorem test_hyp_ReadMicroOp :
    (answering sB [good 0]).nextAnswer.ok = true ∧ (answering sB [bad]).nextAnswer.ok = false := by decide

/-- The pause in the middle of LCD_INIT, and its last micro-op. -/
theorem test_hyp_DelayMicroOp :
    let s := during sG .lcdInit 2
    let s' := during sG .lcdInit 30
    (s.busy = true ∧ s.fault = none ∧ s.uops[s.upc]? = some (.delay 4) ∧ s.upc + 1 ≠ s.uops.length) ∧
      s'.busy = true ∧ s'.fault = none ∧ s'.uops[s'.upc]? = some (.delay 1) ∧ s'.upc + 1 = s'.uops.length := by decide

/-- A busy block in the middle and at the last micro-op, with the transaction succeeding or failing. -/
theorem test_hyp_SequencerStep :
    let s := during sB (.lcdInstrNibble 0x3) 0
    let u : MicroOp := .busWrite .lcd 0x13 0x38
    let v : MicroOp := .busWrite .lcd 0x13 0x18
    s.busy = true ∧ s.fault = none ∧ s.uops[s.upc]? = some u ∧ (perform u (answering s [bad])).fault.isSome = true ∧
      (perform u (answering s [good 0])).fault = none ∧ s.upc + 1 < s.uops.length ∧
      { s with upc := 1 }.uops[1]? = some v ∧ (perform v (answering { s with upc := 1 } [good 0])).fault = none ∧
      1 + 1 = s.uops.length := by decide

theorem test_hyp_SequencerFrame : ∃ t, sequencer (answering (during sB .lcdClearHome 0) [good 0]) = .next t := ⟨_, rfl⟩

/-- A step that ends a request and raises a flag, at a delay; a faulted and an idle block; a byte no running write names. -/
theorem test_hyp_SequencerFrame_clauses :
    let s := during sG .lcdInit 30
    (after (sequencer s)).map State.lcdReady = some true ∧ s.lcdReady = false ∧ s.uops[s.upc]? = some (.delay 1) ∧
      sF.fault.isSome = true ∧ sB.busy = false ∧
      (during sG .lcdInit 0).uops[0]? ≠ some (.busWrite .panel 0x13 0x38) := by decide

/-- The fifth write succeeding, a first write failing, and a later step of a faulted block. -/
theorem test_hyp_ExpConfigCompletes :
    let s := answering (during s0 (.expConfig .lcd) 4) [good 0]
    let s' := answering (during s0 (.expConfig .lcd) 0) [bad]
    (Inv s ∧ s.busy = true ∧ s.req = some (requestOf s.cfg (.expConfig .lcd)) ∧ s.upc = 4 ∧ s.nextAnswer.ok = true) ∧
      (Inv s' ∧ s'.nextAnswer.ok = false) ∧
      (sF.fault.isSome = true ∧ sF.configured .lcd = false ∧ sF.mover ≠ .reset) := by decide

theorem test_hyp_InitCompletes :
    let s := during sG .lcdInit 30
    Inv s ∧ s.busy = true ∧ s.req = some (requestOf s.cfg .lcdInit) ∧ s.upc + 1 = s.uops.length := by decide

/-- A reset of a faulted block, and a step of one that is no reset. -/
theorem test_hyp_ResetClearsTheBlock :
    { sF with turns := [.reset] }.mover = .reset ∧ sF.mover ≠ .reset ∧ sF.fault.isSome = true ∧
      sB.mover ≠ .reset ∧ sB.configured .lcd = true ∧ sB.lcdReady = true := by decide

theorem test_hyp_FinalStatesWait : Final sB := by decide

theorem test_hyp_StepKeepsTheInvariant :
    Inv (answering (during sB (.lcdPrint [0x48, 0x49]) 3) [good 0]) ∧
      ∃ t, step (answering (during sB (.lcdPrint [0x48, 0x49]) 3) [good 0]) = .next t := ⟨by decide, _, rfl⟩

theorem test_hyp_InvariantStatesNeverStop : Inv sB ∧ Inv sF ∧ Inv (during sB .lcdClearHome 9) := by decide

theorem test_hyp_FaultIsSticky :
    sF.fault = some { cause := .notConfigured, reqWord := 0x800000, upc := 0, txn := none } ∧ sF.mover ≠ .reset ∧
      ∃ t, step { sF with link := [0x38, 0x00, 0x00] } = .next t := ⟨by decide, by decide, _, rfl⟩

/-- A step that raises `configured[PANEL]`, and one that raises `lcd_ready`. -/
theorem test_hyp_FlagsChangeOnlyOnCompletion :
    let s := answering (during sG (.expConfig .panel) 4) [good 0]
    let s' := during sG .lcdInit 30
    Inv s ∧ s.mover ≠ .reset ∧ (after (step s)).map State.configuredPanel = some true ∧ s.configuredPanel = false ∧
      Inv s' ∧ s'.mover ≠ .reset ∧ (after (step s')).map State.lcdReady = some true ∧ s'.lcdReady = false := by decide

theorem test_hyp_TraceOnlyAppended :
    (during sB .lcdClearHome 4).mover ≠ .reset ∧ ∃ t, step (during sB .lcdClearHome 4) = .next t := ⟨by decide, _, rfl⟩

theorem test_hyp_ShadowNeverRead : ∃ t, step (during sB .lcdClearHome 4) = .next t := ⟨_, rfl⟩

theorem test_hyp_ShadowAgreesWithTheTrace :
    Inv s0 ∧ ShadowFromTrace s0 ∧ ∃ t, step { s0 with link := [0x18, 0x13, 0xAA] } = .next t :=
  ⟨by decide, fun _ _ => rfl, _, rfl⟩

theorem test_hyp_ParametersNeverChange : ∃ t, step { sF with turns := [.reset] } = .next t := ⟨_, rfl⟩

/-- LCD_PRINT "HI" on the link of a ready block, with every transaction to succeed. -/
theorem test_hyp_WholeRequestRuns :
    let s := answering (given sB ⟨0xB00200, [0x48, 0x49]⟩) (List.replicate 8 (good 0))
    Inv s ∧ Ready s ∧ s.turns = [] ∧ takeRequest s.link = some (⟨0xB00200, [0x48, 0x49]⟩, []) ∧
      decodeRequest ⟨0xB00200, [0x48, 0x49]⟩ = .ok (.lcdPrint [0x48, 0x49]) ∧
      precondition s (.lcdPrint [0x48, 0x49]) = none ∧
      (nextAnswers (busCount (expand s.cfg (.lcdPrint [0x48, 0x49]))) s).all BusAnswer.ok = true := by decide

/-- L34: the write of micro-op 7 fails. -/
theorem test_hyp_FirstFailureStopsTheRequest_write :
    let i := Instr.lcdPrint [0x48, 0x49]
    let s := answering (given sB ⟨0xB00200, [0x48, 0x49]⟩) (List.replicate 6 (good 0) ++ [bad])
    Inv s ∧ Ready s ∧ s.turns = [] ∧ takeRequest s.link = some (⟨0xB00200, [0x48, 0x49]⟩, []) ∧
      decodeRequest ⟨0xB00200, [0x48, 0x49]⟩ = .ok i ∧ precondition s i = none ∧
      (nextAnswers (busCount ((expand s.cfg i).take 7)) s).all BusAnswer.ok = true ∧
      ((nextAnswers (busCount ((expand s.cfg i).take 7) + 1) s).getLast?.map BusAnswer.ok) = some false ∧
      (expand s.cfg i)[7]? = some (.busWrite .lcd 0x13 0xB2) := by decide

/-- P7v: the read of the buttons fails. -/
theorem test_hyp_FirstFailureStopsTheRequest_read :
    let i := Instr.panelReadButtons
    let s := answering (given sB ⟨0xC00000, []⟩) [bad]
    Inv s ∧ Ready s ∧ s.turns = [] ∧ takeRequest s.link = some (⟨0xC00000, []⟩, []) ∧
      decodeRequest ⟨0xC00000, []⟩ = .ok i ∧ precondition s i = none ∧
      (nextAnswers (busCount ((expand s.cfg i).take 0)) s).all BusAnswer.ok = true ∧
      ((nextAnswers (busCount ((expand s.cfg i).take 0) + 1) s).getLast?.map BusAnswer.ok) = some false ∧
      (expand s.cfg i)[0]? = some (.busRead .panel 0x12) := by decide

/-- A micro-op of each kind of request. -/
theorem test_hyp_RequestsReachOnlyTheirLocations :
    (requestRow (.busRead .lcd 0xFF)).isSome = true ∧ (.busRead .lcd 0xFF) ∈ expand Config.ref (.busRead .lcd 0xFF) ∧
      (.busWrite .panel 0x0C 0xFF) ∈ expand Config.ref (.expConfig .panel) ∧ (.delay 4) ∈ expand Config.ref .lcdInit ∧
      (.busRead .panel 0x12) ∈ expand Config.ref .panelReadButtons := by decide

theorem test_hyp_TransferLatchesItsNibble : Config.ref.wf := by decide

theorem test_hyp_InitSendsItsCodes : Config.ref.wf ∧ { Config.ref with initFinalHome := false }.wf := by decide

theorem test_hyp_PrintSendsItsText : Config.ref.wf := by decide

theorem test_hyp_WholeByteRequestsKeepThePhase :
    Config.ref.wf ∧ Instr.lcdSetLine 3 ∈ [Instr.lcdInit, .lcdInstrByte 3, .lcdChar 3, .lcdClearHome, .lcdSetLine 3, .lcdPrint []] := by
  decide

theorem test_hyp_RequestCosts : Config.ref = Config.ref.withDefaults := by decide

end Sys2Proof.Tests
end

