-- ==== Sys2Proof/Proofs/Parameters.lean ====
section
/-!
The parameters (R7): one lemma for each shared operation that could touch `cfg`, and from them that no step changes it.
-/
namespace Sys2Proof.Machine

/-! ### Each operation leaves the parameters alone -/

@[simp] theorem complete_cfg (s : State) (resp : Option Byte) : (s.complete resp).cfg = s.cfg := by
  simp [State.complete]

@[simp] theorem accept_cfg (s : State) (r : Request) (us : List MicroOp) : (s.accept r us).cfg = s.cfg := by
  cases us with
  | nil => simp [accept_nil]
  | cons u us => rfl

@[simp] theorem submit_cfg (r : Request) (check : Option Cause) (us : List MicroOp) (s : State) :
    (submit r check us s).cfg = s.cfg := by
  by_cases hf : s.fault.isSome = true
  · simp [submit_faulted hf]
  have hf : s.fault = none := by simpa using hf
  cases hb : s.busy with
  | true => simp [submit_busy hf hb]
  | false =>
    cases check with
    | some c => simp [submit_rejected ⟨hb, hf⟩, rejected]
    | none => simp [submit_accept ⟨hb, hf⟩]

@[simp] theorem perform_cfg (u : MicroOp) (s : State) : (perform u s).cfg = s.cfg :=
  (perform_frame u s).1

@[simp] theorem advance_cfg (s : State) (resp : Option Byte) : (s.advance resp).cfg = s.cfg := by
  rcases advance_cases s resp with ⟨-, h⟩ | ⟨-, -, h⟩ | ⟨-, -, h⟩ <;> simp [h]

/-! ### The sequencer and the step -/

/-- What a step of the sequencer can do in any state (R24): nothing when the block is idle or faulted, else perform the next
micro-op, complete a request that has none left, or stop beyond the end of `uops` (notes/assumptions/10.md). -/
theorem sequencer_cases (s : State) :
    ((s.busy = false ∨ s.fault.isSome = true) ∧ sequencer s = .next s) ∨
    (∃ u, s.busy = true ∧ s.fault = none ∧ s.uops[s.upc]? = some u ∧
      sequencer s = .next ((perform u s).advance (returned u s))) ∨
    (s.busy = true ∧ s.fault = none ∧ s.upc = s.uops.length ∧ sequencer s = .next (s.complete none)) ∨
    (s.busy = true ∧ s.fault = none ∧ s.uops.length < s.upc ∧ sequencer s = .fault .sequencerStuck) := by
  by_cases hstill : s.busy = false ∨ s.fault.isSome = true
  · exact .inl ⟨hstill, sequencer_still hstill⟩
  obtain ⟨hb, hf⟩ : s.busy = true ∧ s.fault = none := by simpa using hstill
  cases hu : s.uops[s.upc]? with
  | some u => exact .inr (.inl ⟨u, hb, hf, rfl, sequencer_at hb hf hu⟩)
  | none =>
    have hle : s.uops.length ≤ s.upc := List.getElem?_eq_none_iff.mp hu
    rcases Nat.eq_or_lt_of_le hle with hend | hbeyond
    · exact .inr (.inr (.inl ⟨hb, hf, hend.symm, by simp [sequencer, hb, hf, hend]⟩))
    · exact .inr (.inr (.inr ⟨hb, hf, hbeyond, by simp [sequencer, hb, hf, hu, Nat.ne_of_gt hbeyond]⟩))

theorem sequencer_keeps_cfg {s t : State} (h : sequencer s = .next t) : t.cfg = s.cfg := by
  rcases sequencer_cases s with ⟨-, hs⟩ | ⟨u, -, -, -, hs⟩ | ⟨-, -, -, hs⟩ | ⟨-, -, -, hs⟩ <;> rw [hs] at h <;> cases h
  · rfl
  · simp
  · simp

theorem exec_keeps_cfg {i : Instr} {s t : State} (h : exec i s = .next t) : t.cfg = s.cfg := by
  rw [exec_eq] at h
  cases h
  simp

end Sys2Proof.Machine

namespace Sys2Proof.Proofs

open Sys2Proof.Machine

/-- Settles O52, by the five things a step can do (`step_cases`): each ends in an operation that leaves `cfg` alone, the reset
of the block (R190) among them. -/
theorem parametersNeverChange : Obligations.ParametersNeverChange := by
  intro s t h
  rcases step_cases s with
    ⟨-, hs⟩ | ⟨-, hs⟩ | ⟨-, -, hs⟩ | ⟨r, rest, e, -, -, -, hs⟩ | ⟨r, rest, i, -, -, -, hs⟩ <;> rw [hs] at h
  · cases h; simp
  · simpa using sequencer_keeps_cfg h
  · cases h; simp
  · cases h; simp [submitIllegal]
  · simpa using exec_keeps_cfg h

end Sys2Proof.Proofs
end

/-!
The words and the flags behind the state statements: a request that decodes to an instruction is the request that instruction is
encoded as (30_encoding.md R62, R63, R73); which instruction sets which flag (10_state.md R34); which expansions are empty (R25) and
which read (R35).
-/
namespace Sys2Proof

/-! ### A decoded request is its instruction's own -/

theorem setWidth_loNibble : ∀ a : Byte, hiNibble a = 0 → (loNibble a).setWidth 8 = a := by decide

theorem requestWord_of_fields {w : ReqWord} {op : BitVec 4} {d : Device} {a b : Byte}
    (hop : (unpackWord w).op.toNat = op.toNat) (hdev : (unpackWord w).dev = d.bit) (hrsv : (unpackWord w).rsv = 0)
    (ha : (unpackWord w).a = a) (hb : (unpackWord w).b = b) : requestWord op d a b = w := by
  rw [requestWord, ← BitVec.eq_of_toNat_eq hop, ← hdev, ← hrsv, ← ha, ← hb]
  exact packWord_unpackWord w

theorem wordRequest_of_fields {r : Request} {op : BitVec 4} {d : Device} {a b : Byte}
    (hop : (unpackWord r.word).op.toNat = op.toNat) (hdev : (unpackWord r.word).dev = d.bit)
    (hrsv : (unpackWord r.word).rsv = 0) (ha : (unpackWord r.word).a = a) (hb : (unpackWord r.word).b = b)
    (hp : r.payload = []) : wordRequest op d a b = r := by
  rw [wordRequest, requestWord_of_fields hop hdev hrsv ha hb, ← hp]

/-- By the fields the decoder demands of each row: together they leave one word and one payload. -/
theorem requestOf_of_decodeRequest (cfg : Config) {r : Request} {i : Instr} (h : decodeRequest r = .ok i) :
    requestOf cfg i = r := by
  unfold decodeRequest decodeFields at h
  split at h
  all_goals simp only [requireZero_eq_ok, beq_iff_eq, reduceCtorEq, Decoded.ok.injEq] at h
  case h_1 hop =>
    obtain ⟨hrsv, hp, rfl⟩ := h
    exact wordRequest_of_fields hop (bit_deviceOfBit _).symm hrsv rfl rfl hp
  case h_2 hop =>
    obtain ⟨hrsv, hb, hp, rfl⟩ := h
    exact wordRequest_of_fields hop (bit_deviceOfBit _).symm hrsv rfl hb hp
  case h_3 hop =>
    obtain ⟨hrsv, ha, hb, hp, rfl⟩ := h
    exact wordRequest_of_fields hop (bit_deviceOfBit _).symm hrsv ha hb hp
  case h_4 hop =>
    obtain ⟨hrsv, hdev, ha, hsel, hp, rfl⟩ := h
    exact wordRequest_of_fields hop hdev hrsv (setWidth_loNibble _ ha).symm hsel hp
  case h_5 hop =>
    obtain ⟨hrsv, hdev, ha, hb, hp, rfl⟩ := h
    exact wordRequest_of_fields hop hdev hrsv (setWidth_loNibble _ ha).symm hb hp
  case h_6 hop | h_7 hop | h_10 hop | h_13 hop =>
    obtain ⟨hrsv, hdev, hb, hp, rfl⟩ := h
    exact wordRequest_of_fields hop hdev hrsv rfl hb hp
  case h_8 hop | h_9 hop | h_12 hop =>
    obtain ⟨hrsv, hdev, ha, hb, hp, rfl⟩ := h
    exact wordRequest_of_fields hop hdev hrsv ha hb hp
  case h_11 hop =>
    obtain ⟨hrsv, hdev, hb, hlen, rfl⟩ := h
    have ha : (unpackWord r.word).a = BitVec.ofNat 8 r.payload.length := by simp [hlen]
    rw [requestOf, requestWord_of_fields hop hdev hrsv ha hb]

theorem decodeRequest_lcdSetLine (cfg : Config) (line : Byte) :
    decodeRequest (requestOf cfg (.lcdSetLine line)) = .ok (.lcdSetLine line) := by
  simp [decodeRequest, requestOf, wordRequest, unpackWord_requestWord, decodeFields, requireZero, Device.bit]

theorem decodeRequest_lcdPrint_nil (cfg : Config) :
    decodeRequest (requestOf cfg (.lcdPrint [])) = .ok (.lcdPrint []) := by
  simp [decodeRequest, requestOf, unpackWord_requestWord, decodeFields, requireZero, Device.bit]

end Sys2Proof

namespace Sys2Proof.Machine

/-! ### The flags and the preconditions (R34, R162) -/

@[simp] theorem completionFlags_configuredLcd (s : State) (i : Instr) :
    (completionFlags s i).configuredLcd = (s.configuredLcd || decide (i = .expConfig .lcd)) := by
  cases i
  case expConfig d => cases d <;> simp [completionFlags]
  all_goals simp [completionFlags]

@[simp] theorem completionFlags_configuredPanel (s : State) (i : Instr) :
    (completionFlags s i).configuredPanel = (s.configuredPanel || decide (i = .expConfig .panel)) := by
  cases i
  case expConfig d => cases d <;> simp [completionFlags]
  all_goals simp [completionFlags]

@[simp] theorem completionFlags_lcdReady (s : State) (i : Instr) :
    (completionFlags s i).lcdReady = (s.lcdReady || decide (i = .lcdInit)) := by
  cases i <;> simp [completionFlags]

/-- Acceptance depends on the three flags alone. -/
theorem precondition_congr {s t : State} (hl : t.configuredLcd = s.configuredLcd)
    (hp : t.configuredPanel = s.configuredPanel) (hr : t.lcdReady = s.lcdReady) (i : Instr) :
    precondition t i = precondition s i := by
  have hready : checkReady t = checkReady s := by simp only [checkReady, hr]
  have hd : ∀ d, t.configured d = s.configured d := fun d => by cases d <;> assumption
  have hconf : ∀ d, checkConfigured d t = checkConfigured d s := fun d => by simp only [checkConfigured, hd]
  have hunconf : ∀ d, checkUnconfigured d t = checkUnconfigured d s := fun d => by simp only [checkUnconfigured, hd]
  cases i <;> simp only [precondition, hready, hconf, hunconf]

theorem checkConfigured_eq_none {d : Device} {s : State} : checkConfigured d s = none ↔ s.configured d = true := by
  cases h : s.configured d <;> simp [checkConfigured, h]

/-- LCD_INIT, which alone sets `lcd_ready`, is accepted only with the LCD device configured (R110). -/
theorem completionFlags_ready_configured {s : State} {i : Instr} (hp : precondition s i = none)
    (hs : s.lcdReady = true → s.configuredLcd = true) (h : (completionFlags s i).lcdReady = true) :
    (completionFlags s i).configuredLcd = true := by
  simp only [completionFlags_lcdReady, Bool.or_eq_true, decide_eq_true_eq] at h
  simp only [completionFlags_configuredLcd, Bool.or_eq_true]
  rcases h with h | rfl
  · exact .inl (hs h)
  · exact .inl (checkConfigured_eq_none.mp hp)

/-! ### Empty expansions (R25, R136) -/

theorem lineAddr_eq_none {line : Byte} (h : ¬ line < 4) : lineAddr line = none := if_neg h

theorem printText_eq_nil {cfg : Config} {text : List Byte} : printText cfg text = [] ↔ text = [] := by
  match text with
  | [] => simp [printText_nil]
  | [c] => simp [printText_single, charSend]
  | c :: d :: rest => simp [printText_cons_cons, charSend]

/-- Only LCD_SET_LINE and the empty LCD_PRINT can have an empty expansion. -/
theorem eq_of_expand_eq_nil {cfg : Config} {i : Instr} (h : expand cfg i = []) :
    (∃ line, i = .lcdSetLine line) ∨ i = .lcdPrint [] := by
  cases i
  case lcdSetLine line => exact .inl ⟨line, rfl⟩
  case lcdPrint text => exact .inr (by rw [printText_eq_nil.mp h])
  all_goals
    simp [expand, configWrites, initSequence, clearHome, charSend, instrByte, instrNib, xfer] at h

/-- A request that completes in the step that accepts it sets no flag. -/
theorem applyCompletion_of_expand_nil {cfg : Config} {i : Instr} {s : State} (h : expand cfg i = [])
    (hr : s.req = some (requestOf cfg i)) : applyCompletion s = s := by
  rcases eq_of_expand_eq_nil h with ⟨line, rfl⟩ | rfl
  · rw [applyCompletion_of hr (decodeRequest_lcdSetLine cfg line), completionFlags]
  · rw [applyCompletion_of hr (decodeRequest_lcdPrint_nil cfg), completionFlags]

/-! ### Reads (R35) -/

theorem busRead_notMem_instrByte (cfg : Config) (b : Byte) (d : Device) (reg : Byte) :
    .busRead d reg ∉ instrByte cfg b := by
  simp [instrByte, instrNib, xfer]

theorem busRead_notMem_charSend (cfg : Config) (c : Byte) (d : Device) (reg : Byte) :
    .busRead d reg ∉ charSend cfg c := by
  simp [charSend, xfer]

theorem busRead_notMem_printText (cfg : Config) (text : List Byte) (d : Device) (reg : Byte) :
    .busRead d reg ∉ printText cfg text := by
  match text with
  | [] => simp [printText_nil]
  | [c] => exact busRead_notMem_charSend cfg c d reg
  | c :: e :: rest =>
    have hpause : .busRead d reg ∉ printPause cfg := by
      unfold printPause
      split <;> simp
    have hrest := busRead_notMem_printText cfg (e :: rest) d reg
    simp [printText_cons_cons, busRead_notMem_charSend, hpause, hrest]

theorem busRead_notMem_setLine (cfg : Config) (line : Byte) (d : Device) (reg : Byte) :
    .busRead d reg ∉ setLine cfg line := by
  unfold setLine
  split
  · exact busRead_notMem_instrByte cfg _ d reg
  · simp

theorem busRead_notMem_clearHome (cfg : Config) (d : Device) (reg : Byte) : .busRead d reg ∉ clearHome cfg := by
  simp [clearHome, busRead_notMem_instrByte]

theorem busRead_notMem_initSequence (cfg : Config) (d : Device) (reg : Byte) :
    .busRead d reg ∉ initSequence cfg := by
  have hfinal : .busRead d reg ∉ finalClear cfg := by
    unfold finalClear
    split <;> simp [busRead_notMem_clearHome, busRead_notMem_instrByte]
  simp [initSequence, hfinal, busRead_notMem_instrByte, instrNib, xfer]

/-- The two reading requests are the only ones whose expansion reads, and it is that one read. -/
theorem expand_of_busRead_mem {cfg : Config} {i : Instr} {d : Device} {reg : Byte} (h : .busRead d reg ∈ expand cfg i) :
    expand cfg i = [.busRead d reg] ∧ (i = .busRead d reg ∨ i = .panelReadButtons) := by
  cases i
  case busRead d' reg' =>
    obtain ⟨rfl, rfl⟩ : d = d' ∧ reg = reg' := by simpa [expand] using h
    exact ⟨rfl, .inl rfl⟩
  case panelReadButtons =>
    obtain ⟨rfl, rfl⟩ : d = .panel ∧ reg = cfg.regDataA := by simpa [expand] using h
    exact ⟨rfl, .inr rfl⟩
  case lcdSetLine line => exact absurd h (busRead_notMem_setLine cfg line d reg)
  case lcdPrint text => exact absurd h (busRead_notMem_printText cfg text d reg)
  case lcdInit => exact absurd h (busRead_notMem_initSequence cfg d reg)
  case lcdClearHome => exact absurd h (busRead_notMem_clearHome cfg d reg)
  all_goals
    simp [expand, configWrites, charSend, instrByte, instrNib, xfer] at h

end Sys2Proof.Machine

/-!
What a step logs (10_state.md R27, R30): every operation but a reset appends events to the trace, changes the shadow as those
events say, and is otherwise the same whatever trace and shadow it started from. The three statements about the trace and the shadow
are read off this one fact.
-/
namespace Sys2Proof.Machine

/-! ### The shadow that events leave -/

/-- What one event makes of the shadow (R30). -/
def shadowAfter (m : Memory) : Event → Memory
  | .wr d reg v ok => if ok then m.set (location d reg) v else m.erase (location d reg)
  | .req _ _ => m
  | .rd _ _ _ => m
  | .dl _ => m
  | .done _ => m
  | .flt _ => m
  | .fltFaulted => m

theorem shadowAfter_wf {m : Memory} (h : m.wf) (e : Event) : (shadowAfter m e).wf := by
  cases e
  case wr d reg v ok =>
    cases ok
    · exact Memory.erase_wf h _
    · exact Memory.set_wf h (location_lt d reg) v
  all_goals exact h

/-- At every location the shadow an event leaves is what the event says was written there last. -/
theorem get_shadowAfter {m : Memory} (h : m.wf) (e : Event) (d : Device) (reg : Byte) :
    (shadowAfter m e).get (location d reg) = writtenAfter d reg (m.get (location d reg)) e := by
  cases e
  case wr d' reg' v ok =>
    by_cases hloc : d' = d ∧ reg' = reg
    · obtain ⟨rfl, rfl⟩ := hloc
      cases ok <;> simp [shadowAfter, writtenAfter, Memory.get_set_same, Memory.get_erase_same h]
    · have hne : location d reg ≠ location d' reg' := fun hl =>
        hloc ((location_inj.mp hl).imp Eq.symm Eq.symm)
      cases ok <;> simp [shadowAfter, writtenAfter, hloc, Memory.get_set_other _ _ hne, Memory.get_erase_other _ hne]
  all_goals rfl

theorem get_foldl_shadowAfter (es : List Event) (d : Device) (reg : Byte) :
    ∀ {m : Memory}, m.wf →
      (es.foldl shadowAfter m).get (location d reg) = es.foldl (writtenAfter d reg) (m.get (location d reg)) := by
  induction es with
  | nil => exact fun _ => rfl
  | cons e es ih =>
    intro m h
    rw [List.foldl_cons, List.foldl_cons, ih (shadowAfter_wf h e), get_shadowAfter h]

theorem lastWritten_append (tr es : List Event) (d : Device) (reg : Byte) :
    lastWritten (tr ++ es) d reg = es.foldl (writtenAfter d reg) (lastWritten tr d reg) :=
  List.foldl_append

/-! ### Operations that log -/

/-- `s` with another trace and another shadow. -/
def State.withLog (s : State) (tr : List Event) (m : Memory) : State :=
  { s with trace := tr, shadow := m }

/-- From `s`, whatever its trace and its shadow, `f` reaches `t` with the same events appended and the shadow they leave. -/
def Logs (f : State → Host.Outcome State Fault Refusal) (s t : State) : Prop :=
  ∃ es, ∀ tr m, f (s.withLog tr m) = .next (t.withLog (tr ++ es) (es.foldl shadowAfter m))

/-- `Logs` for an operation that always answers. -/
abbrev LogsOp (f : State → State) (s : State) : Prop :=
  Logs (fun s => .next (f s)) s (f s)

theorem logsOp_of_events {f : State → State} {s : State} (es : List Event)
    (h : ∀ tr m, f (s.withLog tr m) = (f s).withLog (tr ++ es) (es.foldl shadowAfter m)) : LogsOp f s :=
  ⟨es, fun tr m => congrArg Host.Outcome.next (h tr m)⟩

/-- An operation that appends nothing and passes trace and shadow on logs no event. -/
theorem logsOp_of_commutes {f : State → State} {s : State}
    (h : ∀ tr m, f (s.withLog tr m) = (f s).withLog tr m) : LogsOp f s :=
  logsOp_of_events [] fun tr m => by rw [h, List.append_nil]; rfl

/-- One operation after another logs the events of both. -/
theorem Logs.after {f : State → Host.Outcome State Fault Refusal} {g : State → State} {s t : State}
    (hf : Logs f (g s) t) (hg : LogsOp g s) : Logs (fun s => f (g s)) s t := by
  obtain ⟨es, hg⟩ := hg
  obtain ⟨es', hf⟩ := hf
  refine ⟨es ++ es', fun tr m => ?_⟩
  have hgs : g (s.withLog tr m) = (g s).withLog (tr ++ es) (es.foldl shadowAfter m) := by
    simpa using hg tr m
  simp only [hgs, hf, List.append_assoc, List.foldl_append]

/-- What an operation that logs did to its own trace and shadow. -/
theorem Logs.trace_shadow {f : State → Host.Outcome State Fault Refusal} {s t : State} (h : Logs f s t) (ht : f s = .next t) :
    ∃ es, t.trace = s.trace ++ es ∧ t.shadow = es.foldl shadowAfter s.shadow ∧
      ∀ tr m, f (s.withLog tr m) = .next (t.withLog (tr ++ es) (es.foldl shadowAfter m)) := by
  obtain ⟨es, h⟩ := h
  have hself : t = t.withLog (s.trace ++ es) (es.foldl shadowAfter s.shadow) := by
    simpa using ht.symm.trans (h s.trace s.shadow)
  exact ⟨es, congrArg State.trace hself, congrArg State.shadow hself, h⟩

/-! ### The operations one by one -/

theorem completionFlags_withLog (s : State) (i : Instr) (tr : List Event) (m : Memory) :
    completionFlags (s.withLog tr m) i = (completionFlags s i).withLog tr m := by
  cases i <;> rfl

theorem applyCompletion_withLog (s : State) (tr : List Event) (m : Memory) :
    applyCompletion (s.withLog tr m) = (applyCompletion s).withLog tr m := by
  have hreq : (s.withLog tr m).req = s.req := rfl
  unfold applyCompletion
  rw [hreq]
  cases s.req with
  | none => rfl
  | some r =>
    simp only
    cases decodeRequest r with
    | ok i => exact completionFlags_withLog s i tr m
    | illegal e => rfl

theorem logsOp_complete (resp : Option Byte) (s : State) : LogsOp (fun s => s.complete resp) s :=
  logsOp_of_events [.done resp] fun tr m => by simp only [complete_eq, applyCompletion_withLog]; rfl

theorem logsOp_accept (r : Request) (us : List MicroOp) (s : State) : LogsOp (fun s => s.accept r us) s := by
  cases us with
  | nil => exact (logsOp_complete none _).after (logsOp_of_commutes fun _ _ => rfl)
  | cons u us => exact logsOp_of_commutes fun _ _ => rfl

theorem logsOp_submit (r : Request) (check : Option Cause) (us : List MicroOp) (s : State) :
    LogsOp (submit r check us) s := by
  by_cases hf : s.fault.isSome = true
  · refine logsOp_of_events [.req r.word r.payload, .fltFaulted] fun tr m => ?_
    rw [submit_faulted (s := s.withLog tr m) hf, submit_faulted hf]
    rfl
  have hf : s.fault = none := by simpa using hf
  cases hb : s.busy with
  | true =>
    refine logsOp_of_events [.req r.word r.payload, .flt .overlap] fun tr m => ?_
    rw [submit_busy (s := s.withLog tr m) hf hb, submit_busy hf hb]
    rfl
  | false =>
    cases check with
    | some c =>
      refine logsOp_of_events [.req r.word r.payload, .flt c] fun tr m => ?_
      rw [submit_rejected (s := s.withLog tr m) ⟨hb, hf⟩, submit_rejected ⟨hb, hf⟩]
      rfl
    | none =>
      obtain ⟨es, h⟩ := (logsOp_accept r us _).after (g := fun s => s.emit (.req r.word r.payload)) (s := s)
        (logsOp_of_events [.req r.word r.payload] fun _ _ => rfl)
      refine ⟨es, fun tr m => ?_⟩
      simp only [submit_accept (s := s.withLog tr m) ⟨hb, hf⟩, submit_accept (s := s) ⟨hb, hf⟩]
      exact h tr m

theorem takeAnswer_withLog (s : State) (tr : List Event) (m : Memory) :
    (s.withLog tr m).takeAnswer = s.takeAnswer.withLog tr m := by
  have hans : (s.withLog tr m).answers = s.answers := rfl
  unfold State.takeAnswer
  rw [hans]
  cases s.answers <;> rfl

theorem logsOp_performWrite (a : BusAnswer) (d : Device) (reg v : Byte) (s : State) : LogsOp (performWrite a d reg v) s := by
  cases h : a.ok with
  | true =>
    refine logsOp_of_events [.wr d reg v true] fun tr m => ?_
    rw [performWrite_ok h, performWrite_ok h]
    rfl
  | false =>
    refine logsOp_of_events [.wr d reg v false, .flt .fatalIO] fun tr m => ?_
    rw [performWrite_failed h, performWrite_failed h]
    rfl

theorem logsOp_performRead (a : BusAnswer) (d : Device) (reg : Byte) (s : State) : LogsOp (performRead a d reg) s := by
  cases h : a.ok with
  | true =>
    refine logsOp_of_events [.rd d reg (some a.byte)] fun tr m => ?_
    rw [performRead_ok h, performRead_ok h]
    rfl
  | false =>
    refine logsOp_of_events [.rd d reg none, .flt .fatalIO] fun tr m => ?_
    rw [performRead_failed h, performRead_failed h]
    rfl

theorem logsOp_perform (u : MicroOp) (s : State) : LogsOp (perform u) s := by
  have htake : LogsOp State.takeAnswer s := logsOp_of_commutes (takeAnswer_withLog s)
  cases u with
  | busWrite d reg v => exact (logsOp_performWrite s.nextAnswer d reg v s.takeAnswer).after htake
  | busRead d reg => exact (logsOp_performRead s.nextAnswer d reg s.takeAnswer).after htake
  | delay ms => exact logsOp_of_events [.dl ms] fun _ _ => rfl

theorem logsOp_advance (resp : Option Byte) (s : State) : LogsOp (fun s => s.advance resp) s := by
  rcases advance_cases s resp with ⟨hf, h⟩ | ⟨hf, hlast, h⟩ | ⟨hf, hmore, h⟩
  · refine logsOp_of_commutes fun tr m => ?_
    rw [h]
    exact advance_faulted (s := s.withLog tr m) hf resp
  · obtain ⟨es, hc⟩ := (logsOp_complete resp { s with upc := s.upc + 1 }).after
      (g := fun s => { s with upc := s.upc + 1 }) (logsOp_of_commutes fun _ _ => rfl)
    refine ⟨es, fun tr m => ?_⟩
    simp only [h, advance_last (s := s.withLog tr m) hf hlast]
    exact hc tr m
  · refine logsOp_of_commutes fun tr m => ?_
    rw [h]
    exact advance_more (s := s.withLog tr m) hf hmore resp

theorem returned_withLog (u : MicroOp) (s : State) (tr : List Event) (m : Memory) :
    returned u (s.withLog tr m) = returned u s := by
  cases u <;> rfl

theorem sequencer_end {s : State} (hb : s.busy = true) (hf : s.fault = none) (h : s.upc = s.uops.length) :
    sequencer s = .next (s.complete none) := by
  simp [sequencer, hb, hf, h]

theorem logs_sequencer {s t : State} (h : sequencer s = .next t) : Logs sequencer s t := by
  rcases sequencer_cases s with ⟨hstill, hs⟩ | ⟨u, hb, hf, hu, hs⟩ | ⟨hb, hf, hend, hs⟩ | ⟨-, -, -, hs⟩ <;>
    rw [hs] at h <;> cases h
  · refine ⟨[], fun tr m => ?_⟩
    rw [sequencer_still (s := s.withLog tr m) hstill, List.append_nil]
    rfl
  · obtain ⟨es, hp⟩ := (logsOp_advance (returned u s) _).after (logsOp_perform u s)
    refine ⟨es, fun tr m => ?_⟩
    rw [sequencer_at (s := s.withLog tr m) hb hf hu, returned_withLog]
    exact hp tr m
  · obtain ⟨es, hc⟩ := logsOp_complete none s
    refine ⟨es, fun tr m => ?_⟩
    rw [sequencer_end (s := s.withLog tr m) hb hf hend]
    exact hc tr m

/-! ### The step -/

theorem step_reset {s : State} (hm : s.mover = .reset) : step s = .next s.takeTurn.resetBlock := by
  simp only [step, hm]

theorem step_block {s : State} (hm : s.mover = .block) : step s = sequencer s.takeTurn := by
  simp only [step, hm]

theorem step_wait {s : State} (hm : s.mover = .host) (hl : takeRequest s.link = none) : step s = .next s.takeTurn := by
  simp only [step, hm, hl]

theorem step_illegal {s : State} {r : Request} {rest : List Byte} {e : DecodeError} (hm : s.mover = .host)
    (hl : takeRequest s.link = some (r, rest)) (hd : decodeRequest r = .illegal e) :
    step s = .next (submitIllegal r (s.takeTurn.setLink rest)) := by
  simp only [step, hm, hl, hd]

/-- A request that decodes is submitted as it stands on the link, since it is its instruction's own. -/
theorem step_request {s : State} {r : Request} {rest : List Byte} {i : Instr} (hm : s.mover = .host)
    (hl : takeRequest s.link = some (r, rest)) (hd : decodeRequest r = .ok i) :
    step s = .next (submit r (precondition s i) (expand s.cfg i) (s.takeTurn.setLink rest)) := by
  have hp : precondition (s.takeTurn.setLink rest) i = precondition s i := precondition_congr rfl rfl rfl i
  simp only [step, hm, hl, hd, exec_eq, hp, setLink_cfg, takeTurn_cfg, requestOf_of_decodeRequest _ hd]

/-- Every step but a reset logs its events (R27, R30). -/
theorem logs_step {s t : State} (hm : s.mover ≠ .reset) (h : step s = .next t) : Logs step s t := by
  rcases step_cases s with
    ⟨hm', -⟩ | ⟨hm', -⟩ | ⟨hm', hl, -⟩ | ⟨r, rest, e, hm', hl, hd, -⟩ | ⟨r, rest, i, hm', hl, hd, -⟩
  · exact absurd hm' hm
  · rw [step_block hm'] at h
    obtain ⟨es, hs⟩ := logs_sequencer h
    refine ⟨es, fun tr m => ?_⟩
    rw [step_block (s := s.withLog tr m) hm']
    exact hs tr m
  · rw [step_wait hm' hl] at h
    cases h
    refine ⟨[], fun tr m => ?_⟩
    rw [step_wait (s := s.withLog tr m) hm' hl, List.append_nil]
    rfl
  · rw [step_illegal hm' hl hd] at h
    cases h
    obtain ⟨es, hs⟩ := logsOp_submit r (some .illegalRequest) [] (s.takeTurn.setLink rest)
    refine ⟨es, fun tr m => ?_⟩
    rw [step_illegal (s := s.withLog tr m) hm' hl hd]
    exact hs tr m
  · rw [step_request hm' hl hd] at h
    cases h
    obtain ⟨es, hs⟩ := logsOp_submit r (precondition s i) (expand s.cfg i) (s.takeTurn.setLink rest)
    refine ⟨es, fun tr m => ?_⟩
    rw [step_request (s := s.withLog tr m) hm' hl hd]
    exact hs tr m

end Sys2Proof.Machine

namespace Sys2Proof.Proofs

open Sys2Proof.Machine

/-- Settles O48: a step logs (`logs_step`), so from another trace it appends the same events and does the same beside. -/
theorem traceOnlyAppended : Obligations.TraceOnlyAppended := by
  intro s t hm h
  obtain ⟨es, htrace, hshadow, hlog⟩ := (logs_step hm h).trace_shadow h
  refine ⟨es, htrace, fun tr => ?_⟩
  have hother := hlog tr s.shadow
  rw [← hshadow] at hother
  exact hother

/-- Settles O49: a reset forgets the shadow (R190), and any other step logs (`logs_step`). -/
theorem shadowNeverRead : Obligations.ShadowNeverRead := by
  intro s t m h
  by_cases hm : s.mover = .reset
  · rw [step_reset hm] at h
    cases h
    exact ⟨[], step_reset (s := { s with shadow := m }) hm⟩
  · obtain ⟨es, htrace, -, hlog⟩ := (logs_step hm h).trace_shadow h
    refine ⟨es.foldl shadowAfter m, ?_⟩
    have hother := hlog s.trace m
    rw [← htrace] at hother
    exact hother

/-- Settles O50: a reset empties both (R190), and the shadow any other step leaves is what its events make of the shadow before
(`logs_step`), location by location what they make of the last value written (`get_foldl_shadowAfter`). -/
theorem shadowAgreesWithTheTrace : Obligations.ShadowAgreesWithTheTrace := by
  intro s t hinv hagree h d reg
  by_cases hm : s.mover = .reset
  · rw [step_reset hm] at h
    cases h
    rfl
  · obtain ⟨-, hwf, -⟩ := hinv
    obtain ⟨es, htrace, hshadow, -⟩ := (logs_step hm h).trace_shadow h
    have hbefore : s.shadow.get (location d reg) = lastWritten s.trace d reg := hagree d reg
    rw [State.shadowAt, hshadow, get_foldl_shadowAfter es d reg hwf, hbefore, htrace, lastWritten_append]

/-- Settles O51: nothing is written and nothing recorded. -/
theorem shadowAgreesAtReset : Obligations.ShadowAgreesAtReset :=
  fun _ _ => rfl

end Sys2Proof.Proofs

/-!
What a submission and a step of the sequencer change, and what they leave alone (10_state.md R24, R25, R34; 60_exceptions.md R162,
R166).
-/
namespace Sys2Proof.Machine

/-! ### Submitting a request -/

/-- What a submission can do (R162). -/
theorem submit_cases (r : Request) (check : Option Cause) (us : List MicroOp) (s : State) :
    (s.fault.isSome = true ∧
      submit r check us s = { s with trace := s.trace ++ [.req r.word r.payload, .fltFaulted] }) ∨
    (∃ f, submit r check us s = (s.emit (.req r.word r.payload)).raise f) ∨
    (Ready s ∧ check = none ∧ submit r check us s = (s.emit (.req r.word r.payload)).accept r us) := by
  by_cases hf : s.fault.isSome = true
  · exact .inl ⟨hf, submit_faulted hf r check us⟩
  have hf : s.fault = none := by simpa using hf
  cases hb : s.busy with
  | true => exact .inr (.inl ⟨_, by simp only [submit, hf, hb]; rfl⟩)
  | false =>
    cases check with
    | some c => exact .inr (.inl ⟨_, by simp only [submit, hf, hb]; rfl⟩)
    | none => exact .inr (.inr ⟨⟨hb, hf⟩, rfl, submit_accept ⟨hb, hf⟩ r us⟩)

/-- A submission changes only the trace, the sequencer and the fault, where an empty expansion sets no flag. -/
theorem submit_sameBut {r : Request} {check : Option Cause} {us : List MicroOp} {s : State}
    (hflags : check = none → us = [] → ∀ u : State, u.req = some r → applyCompletion u = u) :
    SameBut s (submit r check us s) := by
  rcases submit_cases r check us s with ⟨-, h⟩ | ⟨f, h⟩ | ⟨-, hc, h⟩ <;> rw [h]
  · exact ⟨rfl, rfl, rfl, rfl, rfl, rfl, rfl, rfl, rfl⟩
  · exact ⟨rfl, rfl, rfl, rfl, rfl, rfl, rfl, rfl, rfl⟩
  · cases us with
    | cons u us => exact ⟨rfl, rfl, rfl, rfl, rfl, rfl, rfl, rfl, rfl⟩
    | nil =>
      rw [accept_nil, complete_eq, hflags hc rfl _ rfl]
      exact ⟨rfl, rfl, rfl, rfl, rfl, rfl, rfl, rfl, rfl⟩

theorem submit_request_sameBut (cfg : Config) (i : Instr) (check : Option Cause) (s : State) :
    SameBut s (submit (requestOf cfg i) check (expand cfg i) s) :=
  submit_sameBut fun _ hnil _ hreq => applyCompletion_of_expand_nil hnil hreq

theorem submitIllegal_sameBut (r : Request) (s : State) : SameBut s (submitIllegal r s) :=
  submit_sameBut fun hc => by cases hc

theorem atRest_iff {s : State} : s.atRest = true ↔ s.req = none ∧ s.uops = [] ∧ s.upc = 0 := by
  simp [State.atRest, and_assoc]

/-- A block at rest that accepts a request with an empty expansion is at rest again (R25). -/
theorem exec_of_expand_nil {s : State} {i : Instr} (h : Ready s) (hrest : s.atRest = true) (hp : precondition s i = none)
    (hnil : expand s.cfg i = []) :
    exec i s = .next { s with
      trace := s.trace ++ [.req (requestOf s.cfg i).word (requestOf s.cfg i).payload, .done none] } := by
  obtain ⟨hreq, huops, hupc⟩ := atRest_iff.mp hrest
  rw [exec_eq, hp, hnil, submit_accept h, accept_nil, complete_eq, applyCompletion_of_expand_nil hnil rfl]
  simp [State.emit, hreq, huops, hupc, h.1]

/-! ### Performing a micro-op -/

theorem uopOk_of_fault_none {u : MicroOp} {s : State} (h : (perform u s).fault = none) : uopOk u s = true := by
  cases hok : uopOk u s with
  | true => rfl
  | false =>
    obtain ⟨-, -, -, -, hf⟩ := perform_failed hok
    rw [h] at hf
    cases hf

/-- What a sequencer step does with the micro-op it performs (R24): it stops at a fault, completes the request after the last
micro-op, or goes on to the next. -/
theorem perform_advance_cases {u : MicroOp} {s : State} (hf : s.fault = none) (resp : Option Byte) :
    (uopOk u s = false ∧ (perform u s).advance resp = perform u s) ∨
    (uopOk u s = true ∧ s.upc + 1 = s.uops.length ∧
      (perform u s).advance resp = { perform u s with upc := s.upc + 1 }.complete resp) ∨
    (uopOk u s = true ∧ s.upc + 1 ≠ s.uops.length ∧
      (perform u s).advance resp = { perform u s with upc := s.upc + 1 }) := by
  cases hok : uopOk u s with
  | false => exact .inl ⟨rfl, advance_faulted (perform_failed hok).2.2.2.2 resp⟩
  | true =>
    obtain ⟨-, -, huops, hupc, hfault⟩ := perform_ok hok
    rw [hf] at hfault
    by_cases hlast : s.upc + 1 = s.uops.length
    · exact .inr (.inl ⟨rfl, hlast, by rw [advance_last hfault (by rw [hupc, huops, hlast]), hupc]⟩)
    · exact .inr (.inr ⟨rfl, hlast, by rw [advance_more hfault (by rwa [hupc, huops]), hupc]⟩)

/-- A micro-op changes the shadow of no register but the one it writes (R30). -/
theorem perform_shadowAt {u : MicroOp} {d : Device} {reg : Byte} (s : State) (h : ∀ v, u ≠ .busWrite d reg v) :
    (perform u s).shadowAt d reg = s.shadowAt d reg := by
  cases u with
  | busWrite d' reg' v =>
    have hne : location d reg ≠ location d' reg' := fun hl => by
      obtain ⟨rfl, rfl⟩ := location_inj.mp hl
      exact h v rfl
    cases ha : s.nextAnswer.ok
    · simpa [perform, performWrite, ha, State.shadowAt] using Memory.get_erase_other _ hne
    · simpa [perform, performWrite, ha, State.shadowAt] using Memory.get_set_other _ _ hne
  | busRead d' reg' => cases ha : s.nextAnswer.ok <;> simp [perform, performRead, ha, State.shadowAt]
  | delay ms => rfl

/-! ### Completing and advancing -/

/-- Completing a request changes the flags, the trace and the sequencer alone. -/
theorem complete_frame (s : State) (resp : Option Byte) :
    (s.complete resp).link = s.link ∧ (s.complete resp).turns = s.turns ∧ (s.complete resp).shadow = s.shadow ∧
      (s.complete resp).answers = s.answers ∧ (s.complete resp).draws = s.draws ∧ (s.complete resp).fault = s.fault := by
  simp [complete_eq]

theorem complete_flags {s : State} {r : Request} {i : Instr} (hr : s.req = some r) (hd : decodeRequest r = .ok i)
    (resp : Option Byte) :
    (s.complete resp).configuredLcd = (completionFlags s i).configuredLcd ∧
      (s.complete resp).configuredPanel = (completionFlags s i).configuredPanel ∧
      (s.complete resp).lcdReady = (completionFlags s i).lcdReady := by
  rw [complete_eq, applyCompletion_of hr hd]
  exact ⟨rfl, rfl, rfl⟩

theorem complete_getLast (s : State) (resp : Option Byte) : (s.complete resp).trace.getLast? = some (.done resp) := by
  simp [complete_eq]

/-- What follows a micro-op leaves the environment, the shadow and the fault alone. -/
theorem advance_frame (s : State) (resp : Option Byte) :
    (s.advance resp).link = s.link ∧ (s.advance resp).turns = s.turns ∧ (s.advance resp).shadow = s.shadow ∧
      (s.advance resp).answers = s.answers ∧ (s.advance resp).draws = s.draws ∧ (s.advance resp).fault = s.fault := by
  rcases advance_cases s resp with ⟨-, h⟩ | ⟨-, -, h⟩ | ⟨-, -, h⟩ <;> rw [h]
  · exact ⟨rfl, rfl, rfl, rfl, rfl, rfl⟩
  · exact complete_frame _ resp
  · exact ⟨rfl, rfl, rfl, rfl, rfl, rfl⟩

/-! ### The frame of the sequencer, clause by clause -/

theorem sequencer_env {s t : State} (h : sequencer s = .next t) : t.link = s.link ∧ t.turns = s.turns := by
  rcases sequencer_cases s with ⟨-, hs⟩ | ⟨u, -, -, -, hs⟩ | ⟨-, -, -, hs⟩ | ⟨-, -, -, hs⟩ <;> rw [hs] at h <;> cases h
  · exact ⟨rfl, rfl⟩
  · obtain ⟨-, hlink, hturns, -⟩ := perform_frame u s
    obtain ⟨hlink', hturns', -⟩ := advance_frame (perform u s) (returned u s)
    exact ⟨hlink'.trans hlink, hturns'.trans hturns⟩
  · obtain ⟨hlink, hturns, -⟩ := complete_frame s none
    exact ⟨hlink, hturns⟩

theorem sequencer_shadowAt {s t : State} (h : sequencer s = .next t) {d : Device} {reg : Byte}
    (hne : ∀ v, s.busy = true → s.uops[s.upc]? ≠ some (.busWrite d reg v)) : t.shadowAt d reg = s.shadowAt d reg := by
  rcases sequencer_cases s with ⟨-, hs⟩ | ⟨u, hb, -, hu, hs⟩ | ⟨-, -, -, hs⟩ | ⟨-, -, -, hs⟩ <;> rw [hs] at h <;> cases h
  · rfl
  · obtain ⟨-, -, hshadow, -⟩ := advance_frame (perform u s) (returned u s)
    rw [State.shadowAt, hshadow]
    exact perform_shadowAt s fun v hv => hne v hb (hv ▸ hu)
  · obtain ⟨-, -, hshadow, -⟩ := complete_frame s none
    rw [State.shadowAt, hshadow, State.shadowAt]

/-- The flags change only with the completion of a request. -/
theorem sequencer_flags_or_done {s t : State} (h : sequencer s = .next t) :
    (t.configuredLcd = s.configuredLcd ∧ t.configuredPanel = s.configuredPanel ∧ t.lcdReady = s.lcdReady) ∨
    (s.busy = true ∧ s.fault = none ∧ t.busy = false ∧ t.fault = none ∧ ∃ resp, t.trace.getLast? = some (.done resp)) := by
  rcases sequencer_cases s with ⟨-, hs⟩ | ⟨u, hb, hf, -, hs⟩ | ⟨hb, hf, -, hs⟩ | ⟨-, -, -, hs⟩ <;> rw [hs] at h <;> cases h
  · exact .inl ⟨rfl, rfl, rfl⟩
  · obtain ⟨-, -, -, hflags⟩ := perform_frame u s
    rcases perform_advance_cases (u := u) hf (returned u s) with ⟨-, h⟩ | ⟨hok, -, h⟩ | ⟨-, -, h⟩ <;> rw [h]
    · exact .inl hflags
    · obtain ⟨-, -, -, -, hfault⟩ := perform_ok hok
      obtain ⟨-, -, -, -, -, hfault'⟩ := complete_frame { perform u s with upc := s.upc + 1 } (returned u s)
      exact .inr ⟨hb, hf, rfl, hfault'.trans (hfault.trans hf), _, complete_getLast _ _⟩
    · exact .inl hflags
  · obtain ⟨-, -, -, -, -, hfault⟩ := complete_frame s none
    exact .inr ⟨hb, hf, rfl, hfault.trans hf, _, complete_getLast _ _⟩

/-- Where no transaction is to run, the bus is asked for nothing and no fault arises (R52, R160). -/
theorem sequencer_no_transaction {s t : State} (h : sequencer s = .next t)
    (hdelay : ∀ u, s.uops[s.upc]? = some u → ∃ ms, u = .delay ms) :
    t.answers = s.answers ∧ t.draws = s.draws ∧ t.shadow = s.shadow ∧ t.fault = s.fault := by
  rcases sequencer_cases s with ⟨-, hs⟩ | ⟨u, -, -, hu, hs⟩ | ⟨-, -, -, hs⟩ | ⟨-, -, -, hs⟩ <;> rw [hs] at h <;> cases h
  · exact ⟨rfl, rfl, rfl, rfl⟩
  · obtain ⟨ms, rfl⟩ := hdelay u hu
    obtain ⟨-, -, hshadow, hanswers, hdraws, hfault⟩ := advance_frame (perform (.delay ms) s) (returned (.delay ms) s)
    exact ⟨hanswers, hdraws, hshadow, hfault⟩
  · obtain ⟨-, -, hshadow, hanswers, hdraws, hfault⟩ := complete_frame s none
    exact ⟨hanswers, hdraws, hshadow, hfault⟩

end Sys2Proof.Machine

namespace Sys2Proof.Proofs

open Sys2Proof.Machine

/-- Settles O30: a submission changes the trace, the sequencer and the fault alone (`submit_request_sameBut`), logs its events
(`logsOp_submit`), and is refused where a fault stands (`submit_faulted`, R168). -/
theorem submissionFrame : Obligations.SubmissionFrame := by
  intro s t i h
  rw [exec_eq] at h
  injection h with h
  subst h
  have hsame := submit_request_sameBut s.cfg i (precondition s i) s
  refine ⟨hsame, fun d reg => ?_, ?_, fun hf => ?_⟩
  · obtain ⟨-, -, -, hshadow, -⟩ := hsame
    rw [State.shadowAt, hshadow, State.shadowAt]
  · obtain ⟨es, htrace, -⟩ := (logsOp_submit (requestOf s.cfg i) (precondition s i) (expand s.cfg i) s).trace_shadow rfl
    exact ⟨es, htrace⟩
  · rw [submit_faulted hf]

/-- Settles O37, clause by clause from what the sequencer can do in any state (`sequencer_cases`). -/
theorem sequencerFrame : Obligations.SequencerFrame := by
  intro s t h
  obtain ⟨hlink, hturns⟩ := sequencer_env h
  obtain ⟨es, htrace, -⟩ := (logs_sequencer h).trace_shadow h
  refine ⟨sequencer_keeps_cfg h, hlink, hturns, ⟨es, htrace⟩, fun d reg => sequencer_shadowAt h, fun hchange => ?_,
    fun hstill => ?_, sequencer_no_transaction h⟩
  · rcases sequencer_flags_or_done h with ⟨hl, hp, hr⟩ | hdone
    · simp [hl, hp, hr] at hchange
    · exact hdone
  · rw [sequencer_still hstill] at h
    exact (Host.Outcome.next.inj h).symm

/-- Settles O20: LCD_SET_LINE of such a line and the empty LCD_PRINT have an empty expansion (R136, R140). -/
theorem emptyRequestsCompleteAtOnce : Obligations.EmptyRequestsCompleteAtOnce := by
  intro s line hready hl hrest hline
  have hcheck : checkReady s = none := if_pos hl
  have hnil : setLine s.cfg line = [] := by
    simp only [setLine, lineAddr_eq_none (BitVec.not_lt.mpr hline)]
  exact ⟨exec_of_expand_nil hready hrest hcheck hnil, exec_of_expand_nil hready hrest hcheck rfl⟩

/-- Settles O36: the micro-op at `upc` is performed (`sequencer_at`); where it raised no fault it left `upc` and `uops` alone
(`perform_ok`). -/
theorem sequencerStep : Obligations.SequencerStep := by
  intro s u hb hf hu
  rw [sequencer_at hb hf hu]
  refine ⟨fun hfault => by rw [advance_faulted hfault], fun hnone hlt => ?_, fun hnone hlast => ?_⟩
  · obtain ⟨-, -, huops, hupc, -⟩ := perform_ok (uopOk_of_fault_none hnone)
    rw [advance_more hnone (by rw [hupc, huops]; exact Nat.ne_of_lt hlt), hupc]
  · obtain ⟨-, -, huops, hupc, -⟩ := perform_ok (uopOk_of_fault_none hnone)
    rw [advance_last hnone (by rw [hupc, huops, hlast]), hupc]

/-- Settles O41: `State.reset` read field by field (R33); no register is listed in its shadow. -/
theorem resetState : Obligations.ResetState :=
  ⟨rfl, rfl, rfl, rfl, rfl, rfl, rfl, rfl, fun _ _ => rfl, rfl⟩

end Sys2Proof.Proofs

/-!
The invariant (10_state.md R24, 42_lcd_driver.md R110, 60_exceptions.md R166): every step keeps it, no state that meets it is stuck,
and in such states the flags change only as their own request completes (R22, R23, R34).
-/
namespace Sys2Proof.Machine

/-! ### The invariant's parts -/

/-- What the invariant says of the parameters, the shadow and the flags, the sequencer aside. -/
def DataInv (s : State) : Prop :=
  s.cfg.wf ∧ s.shadow.wf ∧ (s.lcdReady = true → s.configuredLcd = true)

theorem inv_iff {s : State} :
    Inv s ↔ DataInv s ∧ ((s.busy = false ∧ s.atRest = true) ∨ (s.busy = true ∧ s.fault = none ∧ s.inProgress = true)) := by
  constructor
  · rintro ⟨hcfg, hshadow, hseq, hfault, hready⟩
    refine ⟨⟨hcfg, hshadow, hready⟩, ?_⟩
    cases hb : s.busy with
    | false =>
      rw [hb, if_neg Bool.false_ne_true] at hseq
      exact .inl ⟨rfl, hseq⟩
    | true =>
      rw [if_pos hb] at hseq
      cases hf : s.fault with
      | none => exact .inr ⟨rfl, rfl, hseq⟩
      | some f => exact absurd (hb.symm.trans (hfault (by rw [hf]; rfl))) Bool.false_ne_true.symm
  · rintro ⟨⟨hcfg, hshadow, hready⟩, ⟨hb, hrest⟩ | ⟨hb, hf, hprogress⟩⟩
    · exact ⟨hcfg, hshadow, by rwa [hb, if_neg Bool.false_ne_true], fun _ => hb, hready⟩
    · exact ⟨hcfg, hshadow, by rwa [if_pos hb], fun hfault => (by rw [hf] at hfault; cases hfault), hready⟩

theorem inProgress_iff {s : State} : s.inProgress = true ↔ ∃ r i, s.req = some r ∧ decodeRequest r = .ok i ∧
    precondition s i = none ∧ s.uops = expand s.cfg i ∧ s.upc < s.uops.length := by
  unfold State.inProgress
  cases s.req with
  | none => simp
  | some r => cases hd : decodeRequest r <;> simp [hd, and_assoc]

theorem inv_of_idle {s : State} (h : DataInv s) (hb : s.busy = false) (hreq : s.req = none) (huops : s.uops = [])
    (hupc : s.upc = 0) : Inv s :=
  inv_iff.mpr ⟨h, .inl ⟨hb, atRest_iff.mpr ⟨hreq, huops, hupc⟩⟩⟩

theorem inv_of_inProgress {s : State} {r : Request} {i : Instr} (h : DataInv s) (hb : s.busy = true) (hf : s.fault = none)
    (hreq : s.req = some r) (hd : decodeRequest r = .ok i) (hp : precondition s i = none) (huops : s.uops = expand s.cfg i)
    (hupc : s.upc < s.uops.length) : Inv s :=
  inv_iff.mpr ⟨h, .inr ⟨hb, hf, inProgress_iff.mpr ⟨r, i, hreq, hd, hp, huops, hupc⟩⟩⟩

/-- A busy block is at a micro-op of the request in progress. -/
theorem inProgress_of_inv {s : State} (h : Inv s) (hb : s.busy = true) : s.fault = none ∧ ∃ r i u,
    s.req = some r ∧ decodeRequest r = .ok i ∧ precondition s i = none ∧ s.uops = expand s.cfg i ∧
      s.uops[s.upc]? = some u := by
  rcases inv_iff.mp h with ⟨-, ⟨hidle, -⟩ | ⟨-, hf, hprogress⟩⟩
  · simp [hb] at hidle
  · obtain ⟨r, i, hreq, hd, hp, huops, hupc⟩ := inProgress_iff.mp hprogress
    exact ⟨hf, r, i, _, hreq, hd, hp, huops, List.getElem?_eq_getElem hupc⟩

theorem DataInv.perform {s : State} (h : DataInv s) (u : MicroOp) : DataInv (perform u s) := by
  obtain ⟨hcfg, hshadow, hready⟩ := h
  obtain ⟨hc, -, -, hl, -, hr⟩ := perform_frame u s
  exact ⟨hc ▸ hcfg, perform_wf hshadow, hl ▸ hr ▸ hready⟩

/-- The completion of an accepted request leaves the block idle with the invariant met (R110, R126). -/
theorem inv_complete {s : State} {r : Request} {i : Instr} (h : DataInv s) (hreq : s.req = some r)
    (hd : decodeRequest r = .ok i) (hp : precondition s i = none) (resp : Option Byte) : Inv (s.complete resp) := by
  obtain ⟨hcfg, hshadow, hready⟩ := h
  obtain ⟨-, -, hm, -⟩ := complete_frame s resp
  obtain ⟨hl, -, hr⟩ := complete_flags hreq hd resp
  refine inv_of_idle ⟨by rwa [complete_cfg], by rwa [hm], ?_⟩ rfl rfl rfl rfl
  rw [hl, hr]
  exact completionFlags_ready_configured hp hready

/-! ### What keeps it -/

/-- A submission keeps the invariant where what is accepted is an instruction's own request and expansion. -/
theorem inv_submit {s : State} {r : Request} {check : Option Cause} {us : List MicroOp} (h : Inv s)
    (haccept : check = none → ∃ i, decodeRequest r = .ok i ∧ precondition s i = none ∧ us = expand s.cfg i) :
    Inv (submit r check us s) := by
  have hdata : DataInv s := (inv_iff.mp h).1
  rcases submit_cases r check us s with ⟨-, hs⟩ | ⟨f, hs⟩ | ⟨⟨-, hf⟩, hc, hs⟩ <;> rw [hs]
  · exact h
  · exact inv_of_idle hdata rfl rfl rfl rfl
  · obtain ⟨i, hd, hp, hus⟩ := haccept hc
    cases us with
    | nil =>
      rw [accept_nil]
      refine inv_complete ?_ rfl hd ?_ none
      · exact hdata
      · exact hp
    | cons u us =>
      exact inv_of_inProgress (i := i) hdata rfl hf rfl hd hp hus (Nat.zero_lt_succ us.length)

theorem inv_sequencer {s t : State} (h : Inv s) (hs : sequencer s = .next t) : Inv t := by
  have hdata : DataInv s := (inv_iff.mp h).1
  cases hb : s.busy with
  | false =>
    rw [sequencer_still (.inl hb)] at hs
    cases hs
    exact h
  | true =>
    obtain ⟨hf, r, i, u, hreq, hd, hp, huops, hu⟩ := inProgress_of_inv h hb
    have hupc : s.upc < s.uops.length := (List.getElem?_eq_some_iff.mp hu).1
    obtain ⟨hc, -, -, hl, hpanel, hr⟩ := perform_frame u s
    have hp' : precondition (perform u s) i = none := (precondition_congr hl hpanel hr i).trans hp
    rw [sequencer_at hb hf hu] at hs
    cases hs
    rcases perform_advance_cases (u := u) hf (returned u s) with ⟨hok, ha⟩ | ⟨hok, -, ha⟩ | ⟨hok, hmore, ha⟩ <;> rw [ha]
    · obtain ⟨hbusy', hreq', huops', hupc', -⟩ := perform_failed hok
      exact inv_of_idle (hdata.perform u) hbusy' hreq' huops' hupc'
    · obtain ⟨-, hreq', -⟩ := perform_ok hok
      exact inv_complete (s := { perform u s with upc := s.upc + 1 }) (hdata.perform u) (hreq'.trans hreq) hd hp' _
    · obtain ⟨hbusy', hreq', huops', -, hfault'⟩ := perform_ok hok
      refine inv_of_inProgress (hdata.perform u) (hbusy'.trans hb) (hfault'.trans hf) (hreq'.trans hreq) hd hp' ?_ ?_
      · exact huops'.trans (huops.trans (by rw [hc]))
      · show s.upc + 1 < (perform u s).uops.length
        rw [huops']
        omega

theorem inv_step {s t : State} (h : Inv s) (hs : step s = .next t) : Inv t := by
  rcases step_cases s with
    ⟨hm, -⟩ | ⟨hm, -⟩ | ⟨hm, hl, -⟩ | ⟨r, rest, e, hm, hl, hd, -⟩ | ⟨r, rest, i, hm, hl, hd, -⟩
  · rw [step_reset hm] at hs
    cases hs
    exact inv_of_idle ⟨(inv_iff.mp h).1.1, Memory.wf_nil, fun hready => by cases hready⟩ rfl rfl rfl rfl
  · rw [step_block hm] at hs
    exact inv_sequencer (s := s.takeTurn) h hs
  · rw [step_wait hm hl] at hs
    cases hs
    exact h
  · rw [step_illegal hm hl hd] at hs
    cases hs
    exact inv_submit (s := s.takeTurn.setLink rest) h fun hc => by cases hc
  · rw [step_request hm hl hd] at hs
    cases hs
    exact inv_submit (s := s.takeTurn.setLink rest) h fun hp => ⟨i, hd, hp, rfl⟩

/-! ### The parameters at reset (R7) -/

theorem wf_withDefaults {c : Config} (h : c.wf) : c.withDefaults.wf := h

theorem wf_installed : Config.installed.wf := by
  unfold Config.installed
  split
  · next h => exact wf_withDefaults h
  · decide

/-! ### The flags -/

/-- The flags of `t` are those of `s`, or those of the completion of the request in progress in `s`, whose `Done` ends the trace:
`Done(none)` where the request reads nothing (R34, R35). -/
def FlagsByCompletion (s t : State) : Prop :=
  ((∀ d, t.configured d = s.configured d) ∧ t.lcdReady = s.lcdReady) ∨
  ∃ r i, s.req = some r ∧ decodeRequest r = .ok i ∧
    (∀ d, t.configured d = (s.configured d || decide (i = .expConfig d))) ∧
    t.lcdReady = (s.lcdReady || decide (i = .lcdInit)) ∧
    ((∀ d reg, .busRead d reg ∉ expand s.cfg i) → t.trace.getLast? = some (.done none))

theorem flagsByCompletion_of_eq {s t : State} (hl : t.configuredLcd = s.configuredLcd)
    (hp : t.configuredPanel = s.configuredPanel) (hr : t.lcdReady = s.lcdReady) : FlagsByCompletion s t :=
  .inl ⟨fun d => by cases d <;> assumption, hr⟩

theorem returned_eq_none {u : MicroOp} (h : ∀ d reg, u ≠ .busRead d reg) (s : State) : returned u s = none := by
  cases u with
  | busWrite d reg v => rfl
  | busRead d reg => exact absurd rfl (h d reg)
  | delay ms => rfl

theorem flagsByCompletion_complete {s v : State} {r : Request} {i : Instr} {resp : Option Byte}
    (hl : v.configuredLcd = s.configuredLcd) (hp : v.configuredPanel = s.configuredPanel) (hr : v.lcdReady = s.lcdReady)
    (hs : s.req = some r) (hv : v.req = some r) (hd : decodeRequest r = .ok i)
    (hresp : (∀ d reg, .busRead d reg ∉ expand s.cfg i) → resp = none) : FlagsByCompletion s (v.complete resp) := by
  obtain ⟨hl', hp', hr'⟩ := complete_flags hv hd resp
  rw [completionFlags_configuredLcd, hl] at hl'
  rw [completionFlags_configuredPanel, hp] at hp'
  rw [completionFlags_lcdReady, hr] at hr'
  exact .inr ⟨r, i, hs, hd, fun d => by cases d <;> assumption, hr', fun hread => by rw [complete_getLast, hresp hread]⟩

theorem flagsByCompletion_sequencer {s t : State} (h : Inv s) (hs : sequencer s = .next t) : FlagsByCompletion s t := by
  cases hb : s.busy with
  | false =>
    rw [sequencer_still (.inl hb)] at hs
    cases hs
    exact flagsByCompletion_of_eq rfl rfl rfl
  | true =>
    obtain ⟨hf, r, i, u, hreq, hd, -, huops, hu⟩ := inProgress_of_inv h hb
    obtain ⟨-, -, -, hl, hp, hr⟩ := perform_frame u s
    rw [sequencer_at hb hf hu] at hs
    cases hs
    rcases perform_advance_cases (u := u) hf (returned u s) with ⟨-, ha⟩ | ⟨hok, -, ha⟩ | ⟨-, -, ha⟩ <;> rw [ha]
    · exact flagsByCompletion_of_eq hl hp hr
    · obtain ⟨-, hreq', -⟩ := perform_ok hok
      refine flagsByCompletion_complete (v := { perform u s with upc := s.upc + 1 }) hl hp hr hreq (hreq'.trans hreq) hd
        fun hread => returned_eq_none (fun d reg hur => hread d reg ?_) s
      exact hur ▸ huops ▸ List.mem_of_getElem? hu
    · exact flagsByCompletion_of_eq hl hp hr

theorem flagsByCompletion_step {s t : State} (h : Inv s) (hm : s.mover ≠ .reset) (hs : step s = .next t) :
    FlagsByCompletion s t := by
  rcases step_cases s with
    ⟨hm', -⟩ | ⟨hm', -⟩ | ⟨hm', hl, -⟩ | ⟨r, rest, e, hm', hl, hd, -⟩ | ⟨r, rest, i, hm', hl, hd, -⟩
  · exact absurd hm' hm
  · rw [step_block hm'] at hs
    exact flagsByCompletion_sequencer (s := s.takeTurn) h hs
  · rw [step_wait hm' hl] at hs
    cases hs
    exact flagsByCompletion_of_eq rfl rfl rfl
  · rw [step_illegal hm' hl hd] at hs
    cases hs
    obtain ⟨hlcd, hpanel, hready, -⟩ := submitIllegal_sameBut r (s.takeTurn.setLink rest)
    exact flagsByCompletion_of_eq hlcd hpanel hready
  · rw [step_request hm' hl hd] at hs
    cases hs
    have hsame := submit_request_sameBut s.cfg i (precondition s i) (s.takeTurn.setLink rest)
    rw [requestOf_of_decodeRequest _ hd] at hsame
    obtain ⟨hlcd, hpanel, hready, -⟩ := hsame
    exact flagsByCompletion_of_eq hlcd hpanel hready

theorem busRead_notMem_expand {cfg : Config} {i : Instr} (h : (∃ d, i = .expConfig d) ∨ i = .lcdInit) (d : Device)
    (reg : Byte) : .busRead d reg ∉ expand cfg i := by
  intro hmem
  obtain ⟨-, rfl | rfl⟩ := expand_of_busRead_mem hmem <;> simp at h

end Sys2Proof.Machine

namespace Sys2Proof.Proofs

open Sys2Proof.Machine

/-- Settles O43: a reset leaves the block at rest, a submission keeps the invariant (`inv_submit`), a step of the sequencer too
(`inv_sequencer`). -/
theorem stepKeepsTheInvariant : Obligations.StepKeepsTheInvariant :=
  fun _ _ => inv_step

/-- Settles O44: the installed parameters are legal whatever the board's are (`wf_installed`), and the block is at rest. -/
theorem resetMeetsTheInvariant : Obligations.ResetMeetsTheInvariant :=
  inv_of_idle ⟨wf_installed, Memory.wf_nil, fun hready => by cases hready⟩ rfl rfl rfl rfl

/-- Settles O45: only the sequencer can be stuck, and not where a busy block is at a micro-op (`inProgress_of_inv`). -/
theorem invariantStatesNeverStop : Obligations.InvariantStatesNeverStop := by
  intro s h
  rcases step_cases s with
    ⟨-, hs⟩ | ⟨-, hs⟩ | ⟨-, -, hs⟩ | ⟨r, rest, e, -, -, -, hs⟩ | ⟨r, rest, i, -, -, -, hs⟩
  · exact ⟨_, hs⟩
  · cases hb : s.busy with
    | false => exact ⟨_, hs.trans (sequencer_still (.inl hb))⟩
    | true =>
      obtain ⟨hf, -, -, u, -, -, -, -, hu⟩ := inProgress_of_inv h hb
      exact ⟨_, hs.trans (sequencer_at (s := s.takeTurn) hb hf hu)⟩
  · exact ⟨_, hs⟩
  · exact ⟨_, hs⟩
  · exact ⟨_, hs.trans (exec_eq i _)⟩

/-- Settles O47: the flags after a step are those before it or those of the request it completes (`flagsByCompletion_step`), and
EXP_CONFIG and LCD_INIT read nothing. -/
theorem flagsChangeOnlyOnCompletion : Obligations.FlagsChangeOnlyOnCompletion := by
  intro s t h hm hs
  rcases flagsByCompletion_step h hm hs with ⟨hconf, hready⟩ | ⟨r, i, hreq, hd, hconf, hready, hdone⟩
  · exact ⟨fun d hne => absurd (hconf d) hne, fun hne => absurd hready hne⟩
  · refine ⟨fun d hne => ?_, fun hne => ?_⟩
    · have hi : i = .expConfig d := Decidable.byContradiction fun hi =>
        hne (by rw [hconf, decide_eq_false hi, Bool.or_false])
      subst hi
      exact ⟨by simp [hconf], r, hreq, hd, hdone (busRead_notMem_expand (.inl ⟨d, rfl⟩))⟩
    · have hi : i = .lcdInit := Decidable.byContradiction fun hi =>
        hne (by rw [hready, decide_eq_false hi, Bool.or_false])
      subst hi
      exact ⟨by simp [hready], r, hreq, hd, hdone (busRead_notMem_expand (.inr rfl))⟩

end Sys2Proof.Proofs

/-!
A request whose transactions all succeed (10_state.md R24, R35; 40_register_bus.md R91, R94): one step accepts it, each step after
that performs a micro-op, the last one completes it.
-/
namespace Sys2Proof.Machine

/-! ### The answers micro-ops take -/

theorem takeAnswer_eq (s : State) :
    s.takeAnswer = { s with answers := s.answers.drop 1, draws := s.draws + (1 - s.answers.length) } := by
  unfold State.takeAnswer
  cases s
  split <;> simp_all

/-- The answers to `n` transactions and then to `m` more. -/
theorem nextAnswers_add (n m : Nat) : ∀ {s t : State}, t.answers = s.answers.drop n →
    t.draws = s.draws + (n - s.answers.length) → nextAnswers (n + m) s = nextAnswers n s ++ nextAnswers m t := by
  induction n with
  | zero =>
    intro s t ha hd
    rw [Nat.zero_add]
    exact nextAnswers_congr m ha.symm (by rw [hd, Nat.zero_sub, Nat.add_zero])
  | succ n ih =>
    intro s t ha hd
    have ha' : t.answers = s.takeAnswer.answers.drop n := by
      rw [ha, takeAnswer_eq, List.drop_drop, Nat.add_comm]
    have hd' : t.draws = s.takeAnswer.draws + (n - s.takeAnswer.answers.length) := by
      rw [hd, takeAnswer_eq]
      simp only [List.length_drop]
      omega
    rw [Nat.succ_add, nextAnswers, nextAnswers, ih ha' hd', List.cons_append]

/-- Micro-ops look at no more answers than they have transactions. -/
theorem uopEvents_append_answers (us : List MicroOp) (bs : List BusAnswer) :
    ∀ {as : List BusAnswer}, as.length = busCount us → uopEvents us (as ++ bs) = uopEvents us as := by
  induction us with
  | nil => exact fun _ => rfl
  | cons u us ih =>
    intro as h
    cases u with
    | delay ms => exact congrArg (Event.dl ms :: ·) (ih h)
    | busWrite d reg v =>
      obtain ⟨a, as, rfl⟩ := List.exists_cons_of_length_eq_add_one h
      exact congrArg (Event.wr d reg v true :: ·) (ih (Nat.succ.inj h))
    | busRead d reg =>
      obtain ⟨a, as, rfl⟩ := List.exists_cons_of_length_eq_add_one h
      exact congrArg (Event.rd d reg (some a.byte) :: ·) (ih (Nat.succ.inj h))

/-! ### Micro-ops that succeed -/

/-- The coming transactions of a list of micro-ops all succeed. -/
abbrev AllSucceed (us : List MicroOp) (s : State) : Prop :=
  (nextAnswers (busCount us) s).all BusAnswer.ok = true

theorem allSucceed_congr (us : List MicroOp) {s t : State} (ha : s.answers = t.answers) (hd : s.draws = t.draws)
    (h : AllSucceed us s) : AllSucceed us t := by
  rwa [AllSucceed, ← nextAnswers_congr _ ha hd]

/-- The state after micro-ops whose transactions all succeed, before the request completes. -/
def State.afterUops (us : List MicroOp) (s : State) : State :=
  { s with
    upc := s.upc + us.length
    trace := s.trace ++ uopEvents us (nextAnswers (busCount us) s)
    shadow := uopShadow us s.shadow
    answers := s.answers.drop (busCount us)
    draws := s.draws + (busCount us - s.answers.length) }

theorem nextAnswers_uops_append (us vs : List MicroOp) (s : State) : nextAnswers (busCount (us ++ vs)) s =
    nextAnswers (busCount us) s ++ nextAnswers (busCount vs) (s.afterUops us) := by
  rw [busCount_append]
  exact nextAnswers_add _ _ rfl rfl

theorem allSucceed_append {us vs : List MicroOp} {s : State} :
    AllSucceed (us ++ vs) s ↔ AllSucceed us s ∧ AllSucceed vs (s.afterUops us) := by
  simp only [AllSucceed, nextAnswers_uops_append, List.all_append, Bool.and_eq_true]

theorem afterUops_nil (s : State) : s.afterUops [] = s := by
  simp [State.afterUops, busCount, uopEvents, uopShadow]

theorem afterUops_append (us vs : List MicroOp) (s : State) : (s.afterUops us).afterUops vs = s.afterUops (us ++ vs) := by
  have hevents : uopEvents (us ++ vs) (nextAnswers (busCount (us ++ vs)) s) =
      uopEvents us (nextAnswers (busCount us) s) ++ uopEvents vs (nextAnswers (busCount vs) (s.afterUops us)) := by
    rw [uopEvents_append, nextAnswers_uops_append, uopEvents_append_answers us _ (nextAnswers_length _ s),
      List.drop_left' (nextAnswers_length _ s)]
  have hdraws : s.draws + (busCount us - s.answers.length) + (busCount vs - (s.answers.length - busCount us)) =
      s.draws + (busCount us + busCount vs - s.answers.length) := by omega
  simp only [State.afterUops, hevents, ← List.append_assoc]
  simp only [busCount_append, uopShadow_append, List.drop_drop, List.length_drop, List.length_append, hdraws,
    Nat.add_assoc]

/-- Performing a micro-op that succeeds, and stepping on. -/
theorem perform_eq_afterUops {u : MicroOp} {s : State} (h : AllSucceed [u] s) :
    { perform u s with upc := s.upc + 1 } = s.afterUops [u] := by
  cases u with
  | busWrite d reg v =>
    have hok : s.nextAnswer.ok = true := by simpa [busCount, nextAnswers] using h
    rw [perform, performWrite_ok hok, takeAnswer_eq]
    rfl
  | busRead d reg =>
    have hok : s.nextAnswer.ok = true := by simpa [busCount, nextAnswers] using h
    rw [perform, performRead_ok hok, takeAnswer_eq]
    rfl
  | delay ms => simp [perform, performDelay, State.emit, State.afterUops, busCount, uopEvents, uopShadow]

theorem uopOk_of_allSucceed {u : MicroOp} {s : State} (h : AllSucceed [u] s) : uopOk u s = true := by
  cases u with
  | busWrite d reg v | busRead d reg => simpa [uopOk, busCount, nextAnswers] using h
  | delay ms => rfl

/-! ### Runs of the sequencer -/

/-- A busy, unfaulted block with no scripted turns: the sequencer moves at every step (R24, R207). -/
structure Running (s : State) : Prop where
  busy : s.busy = true
  fault : s.fault = none
  turns : s.turns = []

theorem Running.afterUops {s : State} (h : Running s) (us : List MicroOp) : Running (s.afterUops us) :=
  ⟨h.busy, h.fault, h.turns⟩

theorem Running.step_eq {s : State} (h : Running s) : step s = sequencer s := by
  have hmover : s.mover = .block := by simp only [State.mover, h.turns, h.busy, if_true]
  have hturn : s.takeTurn = s := by
    have hturns : s.turns.tail = s.turns := by rw [h.turns]; rfl
    simp only [State.takeTurn, hturns]
  rw [step_block hmover, hturn]

/-- A micro-op that succeeds and is not the last: the step goes on to the next. -/
theorem step_more {s : State} {u : MicroOp} (h : Running s) (hu : s.uops[s.upc]? = some u)
    (hmore : s.upc + 1 < s.uops.length) (hok : AllSucceed [u] s) : step s = .next (s.afterUops [u]) := by
  rw [h.step_eq, sequencer_at h.busy h.fault hu, ← perform_eq_afterUops hok]
  rcases perform_advance_cases (u := u) h.fault (returned u s) with ⟨hfail, -⟩ | ⟨-, hlast, -⟩ | ⟨-, -, ha⟩
  · simp [uopOk_of_allSucceed hok] at hfail
  · omega
  · rw [ha]

/-- A last micro-op that succeeds: the step completes the request (R24, R35). -/
theorem step_last {s : State} {u : MicroOp} (h : Running s) (hu : s.uops[s.upc]? = some u)
    (hlast : s.upc + 1 = s.uops.length) (hok : AllSucceed [u] s) :
    step s = .next ((s.afterUops [u]).complete (returned u s)) := by
  rw [h.step_eq, sequencer_at h.busy h.fault hu, ← perform_eq_afterUops hok]
  rcases perform_advance_cases (u := u) h.fault (returned u s) with ⟨hfail, -⟩ | ⟨-, -, ha⟩ | ⟨-, hmore, -⟩
  · simp [uopOk_of_allSucceed hok] at hfail
  · rw [ha]
  · exact absurd hlast hmore

/-- The micro-ops from `upc` on that succeed, with others left after them, take one step each. -/
theorem run_uops (us : List MicroOp) : ∀ {s : State} {rest : List MicroOp}, Running s → s.uops.drop s.upc = us ++ rest →
    rest ≠ [] → AllSucceed us s → core.run us.length s = .next (s.afterUops us) := by
  induction us with
  | nil =>
    intro s rest _ _ _ _
    rw [afterUops_nil]
    rfl
  | cons u us ih =>
    intro s rest h hdrop hrest hok
    obtain ⟨hoku, hokus⟩ := allSucceed_append (us := [u]).mp hok
    have hu : s.uops[s.upc]? = some u := by
      rw [← List.head?_drop, hdrop]
      rfl
    have hdrop' : s.uops.drop (s.upc + 1) = us ++ rest := by
      rw [← List.tail_drop, hdrop]
      rfl
    have hmore : s.upc + 1 < s.uops.length := by
      have hlen := congrArg List.length hdrop'
      have hpos := List.length_pos_iff.mpr hrest
      simp only [List.length_drop, List.length_append] at hlen
      omega
    rw [List.length_cons, run_succ _ (step_more h hu hmore hoku), ih (h.afterUops [u]) hdrop' hrest hokus, afterUops_append]
    rfl

/-- All the micro-ops of a request succeed: after one step each the request is complete, with the byte the last one returned. -/
theorem run_request {s : State} {init : List MicroOp} {last : MicroOp} (h : Running s) (huops : s.uops = init ++ [last])
    (hupc : s.upc = 0) (hok : AllSucceed s.uops s) :
    core.run s.uops.length s = .next ((s.afterUops s.uops).complete (returned last (s.afterUops init))) := by
  rw [huops] at hok ⊢
  obtain ⟨hokinit, hoklast⟩ := allSucceed_append.mp hok
  have hupc' : (s.afterUops init).upc = init.length := by
    show s.upc + init.length = init.length
    omega
  have hlast : (s.afterUops init).uops[(s.afterUops init).upc]? = some last := by
    rw [hupc']
    show s.uops[init.length]? = some last
    simp [huops]
  have hend : (s.afterUops init).upc + 1 = (s.afterUops init).uops.length := by
    rw [hupc']
    show init.length + 1 = s.uops.length
    simp [huops]
  have hinit : core.run init.length s = .next (s.afterUops init) :=
    run_uops init h (by rw [hupc, huops]; rfl) (List.cons_ne_nil _ _) hokinit
  rw [List.length_append, run_add _ _ hinit, ← afterUops_append]
  exact run_succ 0 (step_last (h.afterUops init) hlast hend hoklast)

/-! ### The response (R35) -/

theorem responseOf_eq_none {cfg : Config} {i : Instr} (h : ∀ d reg, .busRead d reg ∉ expand cfg i) (as : List BusAnswer) :
    responseOf i as = none := by
  cases i
  case busRead d reg => exact absurd (List.mem_singleton.mpr rfl) (h d reg)
  case panelReadButtons => exact absurd (List.mem_singleton.mpr rfl) (h .panel cfg.regDataA)
  all_goals rfl

/-- The response of a request is the byte its last micro-op returns. -/
theorem responseOf_eq_returned {cfg : Config} {i : Instr} {init : List MicroOp} {last : MicroOp}
    (h : expand cfg i = init ++ [last]) (s : State) :
    responseOf i (nextAnswers (busCount (expand cfg i)) s) = returned last (s.afterUops init) := by
  by_cases hread : ∃ d reg, .busRead d reg ∈ expand cfg i
  · obtain ⟨d, reg, hmem⟩ := hread
    obtain ⟨hone, hi⟩ := expand_of_busRead_mem hmem
    obtain ⟨rfl, hlast⟩ : init = [] ∧ [last] = [.busRead d reg] := by
      simpa [List.append_eq_singleton_iff] using h.symm.trans hone
    obtain rfl := List.singleton_inj.mp hlast
    rw [hone, afterUops_nil]
    rcases hi with rfl | rfl <;> rfl
  · rw [responseOf_eq_none fun d reg hmem => hread ⟨d, reg, hmem⟩, returned_eq_none]
    rintro d reg rfl
    exact hread ⟨d, reg, by simp [h]⟩

/-! ### A whole request -/

/-- The state in which a request that `s` submits is complete, where all its transactions succeed. -/
def finished (s : State) (r : Request) (i : Instr) : State :=
  ((accepted s r (expand s.cfg i)).afterUops (expand s.cfg i)).complete
    (responseOf i (nextAnswers (busCount (expand s.cfg i)) s))

/-- A request with an empty expansion completes as it is submitted, any other in the step of its last micro-op. -/
theorem run_submitted {s : State} {r : Request} {i : Instr} (hready : Ready s) (hturns : s.turns = [])
    (hok : AllSucceed (expand s.cfg i) s) :
    core.run (expand s.cfg i).length (submit r none (expand s.cfg i) s) = .next (finished s r i) := by
  unfold finished
  rcases List.eq_nil_or_concat (expand s.cfg i) with hnil | ⟨init, last, hus⟩
  · rw [responseOf_eq_none (cfg := s.cfg) (by simp [hnil]), hnil, submit_accept hready, accept_nil, afterUops_nil]
    rfl
  · have hanswers : nextAnswers (busCount (expand s.cfg i)) (accepted s r (expand s.cfg i)) =
        nextAnswers (busCount (expand s.cfg i)) s := nextAnswers_congr _ rfl rfl
    rw [List.concat_eq_append] at hus
    rw [submit_accepted hready r (by simp [hus]), ← hanswers, responseOf_eq_returned hus]
    exact run_request (s := accepted s r (expand s.cfg i)) ⟨rfl, hready.2, hturns⟩ hus rfl
      (allSucceed_congr (s := s) _ rfl rfl hok)

theorem finished_trace (s : State) (r : Request) (i : Instr) : (finished s r i).trace =
    s.trace ++ [.req r.word r.payload] ++ uopEvents (expand s.cfg i) (nextAnswers (busCount (expand s.cfg i)) s)
      ++ [.done (responseOf i (nextAnswers (busCount (expand s.cfg i)) s))] := by
  have hanswers : nextAnswers (busCount (expand s.cfg i)) (accepted s r (expand s.cfg i)) =
      nextAnswers (busCount (expand s.cfg i)) s := nextAnswers_congr _ rfl rfl
  rw [finished, complete_eq, ← hanswers]
  simp only [applyCompletion_trace]
  rfl

theorem finished_frame (s : State) (r : Request) (i : Instr) : (finished s r i).shadow = uopShadow (expand s.cfg i) s.shadow ∧
    (finished s r i).busy = false ∧ (finished s r i).fault = s.fault ∧ (finished s r i).link = s.link ∧
    (finished s r i).turns = s.turns ∧ (finished s r i).cfg = s.cfg := by
  obtain ⟨hlink, hturns, hshadow, -, -, hfault⟩ := complete_frame
    ((accepted s r (expand s.cfg i)).afterUops (expand s.cfg i)) (responseOf i (nextAnswers (busCount (expand s.cfg i)) s))
  exact ⟨hshadow, rfl, hfault, hlink, hturns, complete_cfg _ _⟩

theorem finished_flags (s : State) {r : Request} {i : Instr} (hd : decodeRequest r = .ok i) :
    (finished s r i).configuredLcd = (completionFlags s i).configuredLcd ∧
      (finished s r i).configuredPanel = (completionFlags s i).configuredPanel ∧
      (finished s r i).lcdReady = (completionFlags s i).lcdReady := by
  have h := complete_flags (s := (accepted s r (expand s.cfg i)).afterUops (expand s.cfg i)) rfl hd
    (responseOf i (nextAnswers (busCount (expand s.cfg i)) s))
  simp only [completionFlags_configuredLcd, completionFlags_configuredPanel, completionFlags_lcdReady] at h ⊢
  exact h

end Sys2Proof.Machine

namespace Sys2Proof.Proofs

open Sys2Proof.Machine

/-- Settles O53: the first step submits the request (`step_request`), one step for each micro-op runs it to its completion
(`run_submitted`), and the state it is complete in is read field by field. -/
theorem wholeRequestRuns : Obligations.WholeRequestRuns := by
  intro s r rest i _ hready hturns hlink hd hp hok
  obtain ⟨hb, hf⟩ := hready
  have hmover : s.mover = .host := by simp [State.mover, hturns, hb]
  have hsubmit := step_request hmover hlink hd
  rw [hp] at hsubmit
  have hturns' : (s.takeTurn.setLink rest).turns = [] := by simp [hturns]
  have hrun := run_submitted (s := s.takeTurn.setLink rest) (r := r) (i := i) ⟨hb, hf⟩ hturns'
    (allSucceed_congr (s := s) _ rfl rfl hok)
  have htrace := finished_trace (s.takeTurn.setLink rest) r i
  rw [nextAnswers_congr (s := s.takeTurn.setLink rest) (t := s) _ rfl rfl] at htrace
  obtain ⟨hshadow, hbusy, hfault, hlink', hturnsEnd, hcfg⟩ := finished_frame (s.takeTurn.setLink rest) r i
  obtain ⟨hlcd, hpanel, hready⟩ := finished_flags (s.takeTurn.setLink rest) hd
  simp only [completionFlags_configuredLcd, completionFlags_configuredPanel, completionFlags_lcdReady] at hlcd hpanel hready ⊢
  exact ⟨_, (run_succ _ hsubmit).trans hrun, htrace, hshadow, ⟨hbusy, hfault.trans hf⟩, hlink', hturnsEnd.trans hturns', hcfg,
    hlcd, hpanel, hready⟩

end Sys2Proof.Proofs

/-!
The locations a request reaches (40_register_bus.md R41), what a request that arrives while the block is busy does (R51), and what a
delay does (R52).
-/
namespace Sys2Proof.Machine

/-! ### Micro-ops of the LCD driver (R41) -/

/-- Every micro-op is a write of the LCD device's port-B data register or a delay: what R41 allows an LCD request. -/
def LcdPortOnly (cfg : Config) (us : List MicroOp) : Prop :=
  ∀ u ∈ us, (∃ v, u = .busWrite .lcd cfg.regDataB v) ∨ ∃ ms, u = .delay ms

@[simp] theorem lcdPortOnly_nil (cfg : Config) : LcdPortOnly cfg [] :=
  List.forall_mem_nil _

@[simp] theorem lcdPortOnly_append {cfg : Config} {us vs : List MicroOp} :
    LcdPortOnly cfg (us ++ vs) ↔ LcdPortOnly cfg us ∧ LcdPortOnly cfg vs :=
  List.forall_mem_append

@[simp] theorem lcdPortOnly_delay_cons {cfg : Config} {ms : Nat} {us : List MicroOp} :
    LcdPortOnly cfg (.delay ms :: us) ↔ LcdPortOnly cfg us := by
  simp [LcdPortOnly]

@[simp] theorem lcdPortOnly_xfer (cfg : Config) (sel : Selector) (n : Nibble) : LcdPortOnly cfg (xfer cfg sel n) := by
  simp [LcdPortOnly, xfer]

@[simp] theorem lcdPortOnly_instrNib (cfg : Config) (n : Nibble) : LcdPortOnly cfg (instrNib cfg n) :=
  lcdPortOnly_xfer cfg .instr n

@[simp] theorem lcdPortOnly_instrByte (cfg : Config) (b : Byte) : LcdPortOnly cfg (instrByte cfg b) := by
  simp [instrByte]

@[simp] theorem lcdPortOnly_charSend (cfg : Config) (c : Byte) : LcdPortOnly cfg (charSend cfg c) := by
  simp [charSend]

@[simp] theorem lcdPortOnly_clearHome (cfg : Config) : LcdPortOnly cfg (clearHome cfg) := by
  simp [clearHome]

@[simp] theorem lcdPortOnly_finalClear (cfg : Config) : LcdPortOnly cfg (finalClear cfg) := by
  unfold finalClear
  split <;> simp

@[simp] theorem lcdPortOnly_initSequence (cfg : Config) : LcdPortOnly cfg (initSequence cfg) := by
  simp [initSequence]

@[simp] theorem lcdPortOnly_setLine (cfg : Config) (line : Byte) : LcdPortOnly cfg (setLine cfg line) := by
  unfold setLine
  split <;> simp

@[simp] theorem lcdPortOnly_printPause (cfg : Config) : LcdPortOnly cfg (printPause cfg) := by
  unfold printPause
  split <;> simp

@[simp] theorem lcdPortOnly_printText (cfg : Config) (text : List Byte) : LcdPortOnly cfg (printText cfg text) := by
  match text with
  | [] => simp [printText_nil]
  | [c] => simp [printText_single]
  | c :: d :: rest => simp [printText_cons_cons, lcdPortOnly_printText cfg (d :: rest)]

/-- The five writes of EXP_CONFIG are to five registers of its device. -/
theorem eq_busWrite_of_mem_configWrites {cfg : Config} {d : Device} {u : MicroOp} (h : u ∈ configWrites cfg d) :
    ∃ reg v, u = .busWrite d reg v ∧ reg ∈ [cfg.regDirA, cfg.regPolA, cfg.regPupA, cfg.regDirB, cfg.regDataB] := by
  simp only [configWrites, List.mem_cons, List.not_mem_nil, or_false] at h
  rcases h with rfl | rfl | rfl | rfl | rfl <;> exact ⟨_, _, rfl, by simp⟩

/-! ### Completion -/

@[simp] theorem complete_trace (s : State) (resp : Option Byte) : (s.complete resp).trace = s.trace ++ [.done resp] := by
  simp [complete_eq]

end Sys2Proof.Machine

namespace Sys2Proof.Proofs

open Sys2Proof.Machine

/-- Settles O55: BUS_WRITE, BUS_READ and the PANEL requests are one micro-op each, EXP_CONFIG its five writes, and every LCD request
is put together from transfers and delays (`LcdPortOnly`); a display code is no request. -/
theorem requestsReachOnlyTheirLocations : Obligations.RequestsReachOnlyTheirLocations := by
  intro cfg i u hrow hu
  cases i with
  | busWrite d reg v => exact List.mem_singleton.mp hu
  | busRead d reg => exact List.mem_singleton.mp hu
  | expConfig d => exact eq_busWrite_of_mem_configWrites hu
  | lcdNibble sel n => exact lcdPortOnly_xfer cfg sel n u hu
  | lcdInstrNibble n => exact lcdPortOnly_instrNib cfg n u hu
  | lcdInstrByte b => exact lcdPortOnly_instrByte cfg b u hu
  | lcdChar c => exact lcdPortOnly_charSend cfg c u hu
  | lcdInit => exact lcdPortOnly_initSequence cfg u hu
  | lcdClearHome => exact lcdPortOnly_clearHome cfg u hu
  | lcdSetLine line => exact lcdPortOnly_setLine cfg line u hu
  | lcdPrint text => exact lcdPortOnly_printText cfg text u hu
  | panelReadButtons => exact List.mem_singleton.mp hu
  | panelWriteLights v => exact List.mem_singleton.mp hu
  | init8bit | set4bit | functionSet | displayOnCursorOff | entryModeInc | clearDisplay | returnHome | setDdramAddr
  | writeData | portbByte => cases hrow

/-- Settles O29: a submission to a busy block overlaps before its own check is looked at (`submit_busy`, R162), so an instruction's
and an illegal word's alike. -/
theorem overlapAbandonsTheRequest : Obligations.OverlapAbandonsTheRequest := by
  intro s i r hf hb
  exact ⟨by rw [exec_eq, submit_busy hf hb], submit_busy hf hb r _ _⟩

/-- Settles O35: performing a delay is one event by definition; the step that performs one goes on or completes as for any micro-op
(`sequencerStep`), and without a transaction asks the bus for nothing and raises no fault (`sequencer_no_transaction`). -/
theorem delayMicroOp : Obligations.DelayMicroOp := by
  intro ms s
  refine ⟨rfl, rfl, fun hb hf hu => ?_⟩
  have hdelay : ∀ u, s.uops[s.upc]? = some u → ∃ ms, u = .delay ms :=
    fun u hu' => ⟨ms, Option.some.inj (hu'.symm.trans hu)⟩
  have hlt : s.upc < s.uops.length := (List.getElem?_eq_some_iff.mp hu).1
  obtain ⟨-, hmore, hlast⟩ := sequencerStep s (.delay ms) hb hf hu
  by_cases hend : s.upc + 1 = s.uops.length
  · have hstep := hlast hf hend
    obtain ⟨hanswers, hdraws, hshadow, hfault⟩ := sequencer_no_transaction hstep hdelay
    refine ⟨_, hstep, hfault.trans hf, hshadow, hanswers, hdraws, ?_⟩
    rw [if_pos hend]
    exact ⟨rfl, by simp [perform, performDelay, returned]⟩
  · refine ⟨_, hmore hf (by omega), hf, rfl, rfl, rfl, ?_⟩
    rw [if_neg hend]
    exact ⟨hb, rfl, rfl, rfl⟩

end Sys2Proof.Proofs

/-!
The two directions of the encoding (30_encoding.md R61 to R66, R70, R71, R73): a request of R62's table decodes to the instruction it
was written for, the fields of a port-B byte are read back from it, and each decoder answers an instruction only for that
instruction's own code.
-/
namespace Sys2Proof

/-! ### Decoding what the encoder writes -/

@[simp] theorem bit_panel : Device.panel.bit = false := rfl

theorem decodeRequest_wordRequest (op : BitVec 4) (d : Device) (a b : Byte) :
    decodeRequest (wordRequest op d a b) = decodeFields { op := op, dev := d.bit, rsv := 0, a := a, b := b } [] := by
  rw [decodeRequest, wordRequest, unpackWord_requestWord]

theorem decodeRequest_lcdPrint (cfg : Config) {text : List Byte} (h : text.length ≤ 255) :
    decodeRequest (requestOf cfg (.lcdPrint text)) = .ok (.lcdPrint text) := by
  have hlen : text.length % 256 = text.length := Nat.mod_eq_of_lt (by omega)
  simp [decodeRequest, requestOf, unpackWord_requestWord, decodeFields, requireZero, hlen]

/-- A request of R62's table decodes to the instruction it was written for. -/
theorem decodeRequest_requestOf (cfg : Config) {i : Instr} (hrow : (requestRow i).isSome = true) (hwf : WellFormed i = true) :
    decodeRequest (requestOf cfg i) = .ok i := by
  cases i
  case lcdPrint text => exact decodeRequest_lcdPrint cfg (by simpa [WellFormed] using hwf)
  case init8bit | set4bit | functionSet | displayOnCursorOff | entryModeInc | clearDisplay | returnHome | setDdramAddr
      | writeData | portbByte => cases hrow
  all_goals
    simp [requestOf, decodeRequest_wordRequest, decodeFields, requireZero]

/-- A decoded request is an instruction of R62's table, of a payload length the table allows (R73). -/
theorem wellFormed_of_decodeRequest {r : Request} {i : Instr} (h : decodeRequest r = .ok i) :
    WellFormed i = true ∧ (requestRow i).isSome = true := by
  unfold decodeRequest decodeFields at h
  split at h
  all_goals simp only [requireZero_eq_ok, beq_iff_eq, reduceCtorEq, Decoded.ok.injEq] at h
  case h_11 =>
    obtain ⟨-, -, -, hlen, rfl⟩ := h
    have hle : r.payload.length ≤ 255 := by rw [hlen]; omega
    exact ⟨by simpa [WellFormed] using hle, rfl⟩
  case h_1 =>
    obtain ⟨-, -, rfl⟩ := h
    exact ⟨rfl, rfl⟩
  case h_2 =>
    obtain ⟨-, -, -, rfl⟩ := h
    exact ⟨rfl, rfl⟩
  case h_3 | h_6 | h_7 | h_10 | h_13 =>
    obtain ⟨-, -, -, -, rfl⟩ := h
    exact ⟨rfl, rfl⟩
  case h_4 | h_5 | h_8 | h_9 | h_12 =>
    obtain ⟨-, -, -, -, -, rfl⟩ := h
    exact ⟨rfl, rfl⟩

theorem encode_of_requestRow (cfg : Config) {i : Instr} (h : (requestRow i).isSome = true) :
    encode cfg i = .req (requestOf cfg i) := by
  cases i
  case init8bit | set4bit | functionSet | displayOnCursorOff | entryModeInc | clearDisplay | returnHome | setDdramAddr
      | writeData | portbByte => cases h
  all_goals rfl

/-! ### The port-B byte (R66) -/

section
variable {cfg : Config} (hmask : cfg.enMask = 0x01 ∨ cfg.enMask = 0x20 ∨ cfg.enMask = 0x40)
include hmask

/-- Selector, nibble and enable bit are read back from the byte, and it holds nothing else. -/
theorem portb_fields (sel : Selector) (n : Nibble) (en : Bool) :
    selectorOf (portb cfg sel n en) = sel ∧ unremap (portb cfg sel n en) = n ∧
      (portb cfg sel n en &&& cfg.enMask ≠ 0 ↔ en = true) ∧ portb cfg sel n en &&& ~~~(0x9E ||| cfg.enMask) = 0 := by
  rcases hmask with h | h | h
  all_goals
    rw [portb, h]
    revert n
    cases sel <;> cases en <;> decide

theorem decodePortb_portb (sel : Selector) (n : Nibble) (en : Bool) :
    decodePortb cfg (portb cfg sel n en) = .ok (.portbByte sel n en) := by
  obtain ⟨hsel, hn, hen, -⟩ := portb_fields hmask sel n en
  simp only [decodePortb, hsel, hn, hen, Bool.decide_eq_true, if_true]

end

theorem encode_of_decodePortb {cfg : Config} {v : Byte} {i : Instr} (h : decodePortb cfg v = .ok i) :
    encode cfg i = .portb v ∧ WellFormed i = true := by
  simp only [decodePortb] at h
  split at h
  · next hv =>
    cases h
    exact ⟨congrArg Code.portb hv, rfl⟩
  · cases h

/-! ### The display codes (R70, R71) -/

theorem decodeLcdInstr_ddramByte : ∀ a : DdramAddr, decodeLcdInstr (ddramByte a) = .ok (.setDdramAddr a) := by decide

theorem ddramByte_of_bit_seven : ∀ b : Byte, b.getLsbD 7 = true → ddramByte (b.extractLsb' 0 7) = b := by decide

theorem encode_of_decodeLcdNibble (cfg : Config) {n : Nibble} {i : Instr} (h : decodeLcdNibble n = .ok i) :
    encode cfg i = .lcdNibble n ∧ WellFormed i = true := by
  unfold decodeLcdNibble at h
  split at h
  · next hn =>
    cases h
    exact ⟨congrArg Code.lcdNibble hn.symm, rfl⟩
  split at h
  · next hn =>
    cases h
    exact ⟨congrArg Code.lcdNibble hn.symm, rfl⟩
  · cases h

theorem encode_of_decodeLcdInstr (cfg : Config) {b : Byte} {i : Instr} (h : decodeLcdInstr b = .ok i) :
    encode cfg i = .lcdInstr b ∧ WellFormed i = true := by
  unfold decodeLcdInstr at h
  split at h
  · next hb =>
    cases h
    exact ⟨congrArg Code.lcdInstr hb.symm, rfl⟩
  split at h
  · next hb =>
    cases h
    exact ⟨congrArg Code.lcdInstr hb.symm, rfl⟩
  split at h
  · next hb =>
    cases h
    exact ⟨congrArg Code.lcdInstr hb.symm, rfl⟩
  split at h
  · next hb =>
    cases h
    exact ⟨congrArg Code.lcdInstr hb.symm, rfl⟩
  split at h
  · next hb =>
    cases h
    exact ⟨congrArg Code.lcdInstr hb.symm, rfl⟩
  split at h
  · next hb =>
    cases h
    exact ⟨congrArg Code.lcdInstr (ddramByte_of_bit_seven b hb), rfl⟩
  · cases h

end Sys2Proof

namespace Sys2Proof.Proofs

/-- Settles O1: a request row's code is its request (`decodeRequest_requestOf`), a port-B byte's fields are read back from it
(`decodePortb_portb`), and so is the address of a set-DDRAM byte (`decodeLcdInstr_ddramByte`). -/
theorem decodeOfEncode : Obligations.DecodeOfEncode := by
  intro cfg i ⟨hmask, _⟩ hwf
  cases i with
  | init8bit | set4bit | functionSet | displayOnCursorOff | entryModeInc | clearDisplay | returnHome | writeData => rfl
  | setDdramAddr a => exact decodeLcdInstr_ddramByte a
  | portbByte sel n en => exact decodePortb_portb hmask sel n en
  | _ => exact decodeRequest_requestOf cfg rfl hwf

/-- Settles O2, format by format: a decoded request is its instruction's own (`requestOf_of_decodeRequest`), and the decoder of each
display format answers an instruction only where the code is that instruction's. -/
theorem encodeOfDecode : Obligations.EncodeOfDecode := by
  intro cfg c i h
  cases c with
  | req r =>
    obtain ⟨hwf, hrow⟩ := wellFormed_of_decodeRequest h
    exact ⟨by rw [encode_of_requestRow cfg hrow, requestOf_of_decodeRequest cfg h], hwf⟩
  | lcdNibble n => exact encode_of_decodeLcdNibble cfg h
  | lcdInstr b => exact encode_of_decodeLcdInstr cfg h
  | lcdData b =>
    cases h
    exact ⟨rfl, rfl⟩
  | portb v => exact encode_of_decodePortb h

end Sys2Proof.Proofs

/-!
The request table (30_encoding.md R62, R63, R75): which words select which row, and what operands they carry.
-/
namespace Sys2Proof

/-! ### The rows of R62 -/

theorem mem_requestRows {i : Instr} {m k : ReqWord} (h : requestRow i = some (m, k)) : (m, k) ∈ requestRows := by
  cases i
  case init8bit | set4bit | functionSet | displayOnCursorOff | entryModeInc | clearDisplay | returnHome | setDdramAddr
      | writeData | portbByte => cases h
  all_goals
    cases h
    simp [requestRows]

/-- The laws of the encoder, instruction by instruction, as one. -/
theorem requestOf_meets_row (i : Instr) : Laws.EncodingMatchesRow.Statement i := by
  cases i
  case busWrite => exact Laws.EncodingMatchesRow.busWrite _ _ _
  case busRead => exact Laws.EncodingMatchesRow.busRead _ _
  case expConfig => exact Laws.EncodingMatchesRow.expConfig _
  case lcdNibble => exact Laws.EncodingMatchesRow.lcdNibble _ _
  case lcdInstrNibble => exact Laws.EncodingMatchesRow.lcdInstrNibble _
  case lcdInstrByte => exact Laws.EncodingMatchesRow.lcdInstrByte _
  case lcdChar => exact Laws.EncodingMatchesRow.lcdChar _
  case lcdInit => exact Laws.EncodingMatchesRow.lcdInit
  case lcdClearHome => exact Laws.EncodingMatchesRow.lcdClearHome
  case lcdSetLine => exact Laws.EncodingMatchesRow.lcdSetLine _
  case lcdPrint => exact Laws.EncodingMatchesRow.lcdPrint _
  case panelReadButtons => exact Laws.EncodingMatchesRow.panelReadButtons
  case panelWriteLights => exact Laws.EncodingMatchesRow.panelWriteLights _
  case init8bit => exact Laws.EncodingMatchesRow.init8bit
  case set4bit => exact Laws.EncodingMatchesRow.set4bit
  case functionSet => exact Laws.EncodingMatchesRow.functionSet
  case displayOnCursorOff => exact Laws.EncodingMatchesRow.displayOnCursorOff
  case entryModeInc => exact Laws.EncodingMatchesRow.entryModeInc
  case clearDisplay => exact Laws.EncodingMatchesRow.clearDisplay
  case returnHome => exact Laws.EncodingMatchesRow.returnHome
  case setDdramAddr => exact Laws.EncodingMatchesRow.setDdramAddr _
  case writeData => exact Laws.EncodingMatchesRow.writeData _
  case portbByte => exact Laws.EncodingMatchesRow.portbByte _ _ _

/-- The word of a decoded request meets the match and the mask of its instruction's row. -/
theorem row_of_decodeRequest {r : Request} {i : Instr} (h : decodeRequest r = .ok i) {m k : ReqWord}
    (hrow : requestRow i = some (m, k)) : r.word &&& k = m := by
  obtain ⟨hwf, -⟩ := wellFormed_of_decodeRequest h
  rw [← requestOf_of_decodeRequest Config.ref h]
  exact (requestOf_meets_row i hwf Config.ref).2 m k hrow

/-- A word that selects no row is illegal (R75). -/
theorem decodeRequest_illegal {r : Request} (h : ∀ m k, (m, k) ∈ requestRows → r.word &&& k ≠ m) :
    ∃ e, decodeRequest r = .illegal e := by
  cases hd : decodeRequest r with
  | illegal e => exact ⟨e, rfl⟩
  | ok i =>
    obtain ⟨⟨m, k⟩, hrow⟩ := Option.isSome_iff_exists.mp (wellFormed_of_decodeRequest hd).2
    exact absurd (row_of_decodeRequest hd hrow) (h m k (mem_requestRows hrow))

/-- Every match of R62's table is an opcode alone, and every mask covers OP and RSV. -/
theorem meets_row_iff (w : ReqWord) (op : BitVec 4) (dev : Bool) (a b : Byte) :
    w &&& packWord { op := 0xF, dev := dev, rsv := 7, a := a, b := b } =
        packWord { op := op, dev := false, rsv := 0, a := 0, b := 0 } ↔
      (unpackWord w).op = op ∧ ((unpackWord w).dev && dev) = false ∧ (unpackWord w).rsv = 0 ∧
        (unpackWord w).a &&& a = 0 ∧ (unpackWord w).b &&& b = 0 := by
  have hop : (unpackWord w).op &&& 0xF = (unpackWord w).op := BitVec.and_allOnes
  have hrsv : (unpackWord w).rsv &&& 7 = (unpackWord w).rsv := BitVec.and_allOnes
  simp only [and_mask_eq_iff, unpackWord_packWord, hop, hrsv]

theorem and_ff_eq_zero_iff (a : Byte) : a &&& 0xFF = 0 ↔ a = 0 := by
  have hones : (0xFF : Byte) = BitVec.allOnes 8 := by decide
  rw [hones, BitVec.and_allOnes]

/-- The opcode tells the row apart (R62). -/
theorem op_of_meets_row {w m k : ReqWord} (hrow : (m, k) ∈ requestRows) (h : w &&& k = m) :
    (unpackWord m).op = (unpackWord w).op := by
  have hmasks : requestRows.all (fun row => (unpackWord row.2).op == 0xF) = true := rfl
  have hk : (unpackWord k).op = 0xF := by simpa using List.all_eq_true.mp hmasks (m, k) hrow
  obtain ⟨hop, -⟩ := (and_mask_eq_iff w k m).mp h
  rw [← hop, hk]
  exact BitVec.and_allOnes

/-- A request whose word has the fields an instruction is written with decodes to that instruction. -/
theorem decodeRequest_of_fields {w : ReqWord} {p : List Byte} {i : Instr} {op : BitVec 4} {d : Device} {a b : Byte}
    (hlen : p.length = payloadLength w) (hi : requestOf Config.ref i = wordRequest op d a b) (hrow : (requestRow i).isSome = true)
    (hwf : WellFormed i = true) (hne : op ≠ 0xB#4) (hop : (unpackWord w).op = op) (hdev : (unpackWord w).dev = d.bit)
    (hrsv : (unpackWord w).rsv = 0) (ha : (unpackWord w).a = a) (hb : (unpackWord w).b = b) :
    decodeRequest ⟨w, p⟩ = .ok i := by
  have hp : p = [] := by
    rw [payloadLength, if_neg (hop ▸ hne)] at hlen
    exact List.length_eq_zero_iff.mp hlen
  rw [← wordRequest_of_fields (r := ⟨w, p⟩) (congrArg BitVec.toNat hop) hdev hrsv ha hb hp, ← hi]
  exact decodeRequest_requestOf Config.ref hrow hwf

/-- The rows whose must-be-zero bits are DEV, RSV and B: the byte operand is A. -/
theorem decodeRequest_of_byteRow {w : ReqWord} {p : List Byte} {i : Instr} (op : BitVec 4) (hlen : p.length = payloadLength w)
    (h : w &&& 0xFF00FF = packWord { op := op, dev := false, rsv := 0, a := 0, b := 0 })
    (hi : requestOf Config.ref i = wordRequest op .panel (unpackWord w).a 0) (hrow : (requestRow i).isSome = true)
    (hwf : WellFormed i = true) (hne : op ≠ 0xB#4) : decodeRequest ⟨w, p⟩ = .ok i := by
  obtain ⟨hop, hdev, hrsv, -, hb⟩ := (meets_row_iff w op true 0 0xFF).mp h
  rw [Bool.and_true] at hdev
  exact decodeRequest_of_fields hlen hi hrow hwf hne hop hdev hrsv rfl ((and_ff_eq_zero_iff _).mp hb)

/-- The rows of a single word: no operand. -/
theorem decodeRequest_of_wordRow {w : ReqWord} {p : List Byte} {i : Instr} (op : BitVec 4) (hlen : p.length = payloadLength w)
    (h : w &&& 0xFFFFFF = packWord { op := op, dev := false, rsv := 0, a := 0, b := 0 })
    (hi : requestOf Config.ref i = wordRequest op .panel 0 0) (hrow : (requestRow i).isSome = true)
    (hwf : WellFormed i = true) (hne : op ≠ 0xB#4) : decodeRequest ⟨w, p⟩ = .ok i := by
  obtain ⟨hop, hdev, hrsv, ha, hb⟩ := (meets_row_iff w op true 0xFF 0xFF).mp h
  rw [Bool.and_true] at hdev
  exact decodeRequest_of_fields hlen hi hrow hwf hne hop hdev hrsv ((and_ff_eq_zero_iff _).mp ha)
    ((and_ff_eq_zero_iff _).mp hb)

theorem loNibble_unpackWord_a (w : ReqWord) : loNibble (unpackWord w).a = w.extractLsb' 8 4 := by
  apply BitVec.eq_of_getLsbD_eq
  intro i hi
  simp [loNibble, unpackWord, hi, show i < 8 by omega]

theorem selectorOf_unpackWord_b (w : ReqWord) : selectorOf (unpackWord w).b = if w.getLsbD 7 then .data else .instr := by
  simp [selectorOf, unpackWord]

theorem selectorByte_cases (sel : Selector) : sel.byte = 0x00#8 ∨ sel.byte = 0x80#8 := by
  cases sel
  · exact .inl rfl
  · exact .inr rfl

end Sys2Proof

namespace Sys2Proof.Proofs

/-- Settles O8: each clause is about the 16 nibbles or the 256 bytes; a byte of the image is the remap of its own `unremap`. -/
theorem remapFollowsTheWiring : Obligations.RemapFollowsTheWiring := by
  have himage : ∀ n : Nibble, (remap n).getLsbD 7 = false ∧ (remap n).getLsbD 6 = false ∧ (remap n).getLsbD 5 = false ∧
      (remap n).getLsbD 0 = false := by decide
  have hpreimage : ∀ b : Byte, b.getLsbD 7 = false ∧ b.getLsbD 6 = false ∧ b.getLsbD 5 = false ∧ b.getLsbD 0 = false →
      remap (unremap b) = b := by decide
  refine ⟨by decide, by decide, fun b => ⟨?_, fun h => ⟨unremap b, hpreimage b h⟩⟩, by decide, 0x1, by decide⟩
  rintro ⟨n, rfl⟩
  exact himage n

/-- Settles O10: the bytes of the 128 addresses are evaluated. -/
theorem ddramByteSetsBitSeven : Obligations.DdramByteSetsBitSeven :=
  ⟨by decide, by decide, by decide, by decide, by decide⟩

/-- Settles O5, row by row: the row's match and mask fix the fields that are no operands (`meets_row_iff`), so the word is the one
written for the instruction with the others as its operands (`decodeRequest_of_fields`). -/
theorem operandsComeFromTheFields : Obligations.OperandsComeFromTheFields := by
  intro w p hlen
  refine ⟨fun h => ?_, fun h => ?_, fun h => ?_, fun h => ?_, fun h => ?_, fun h => ?_, fun h => ?_, fun h => ?_, fun h => ?_,
    fun h => ?_, fun h => ?_, fun h => ?_, fun h => ?_⟩
  · obtain ⟨hop, -, hrsv, -, -⟩ := (meets_row_iff w 0x1 false 0 0).mp h
    exact decodeRequest_of_fields hlen rfl rfl rfl (by decide) hop (bit_deviceOfBit _).symm hrsv rfl rfl
  · obtain ⟨hop, -, hrsv, -, hb⟩ := (meets_row_iff w 0x2 false 0 0xFF).mp h
    rw [and_ff_eq_zero_iff] at hb
    exact decodeRequest_of_fields hlen rfl rfl rfl (by decide) hop (bit_deviceOfBit _).symm hrsv rfl hb
  · obtain ⟨hop, -, hrsv, ha, hb⟩ := (meets_row_iff w 0x3 false 0xFF 0xFF).mp h
    rw [and_ff_eq_zero_iff] at ha hb
    exact decodeRequest_of_fields hlen rfl rfl rfl (by decide) hop (bit_deviceOfBit _).symm hrsv ha hb
  · obtain ⟨hop, hdev, hrsv, ha, hb⟩ := (meets_row_iff w 0x4 true 0xF0 0x7F).mp h
    rw [Bool.and_true] at hdev
    rw [and_f0_eq_zero_iff] at ha
    rw [and_7f_eq_zero_iff] at hb
    rw [← selectorOf_unpackWord_b, ← loNibble_unpackWord_a]
    refine ⟨?_, decodeRequest_of_fields hlen rfl rfl rfl (by decide) hop hdev hrsv (setWidth_loNibble _ ha).symm hb⟩
    show (unpackWord w).b = _ ∨ (unpackWord w).b = _
    rw [hb]
    exact selectorByte_cases _
  · obtain ⟨hop, hdev, hrsv, ha, hb⟩ := (meets_row_iff w 0x5 true 0xF0 0xFF).mp h
    rw [Bool.and_true] at hdev
    rw [and_f0_eq_zero_iff] at ha
    rw [and_ff_eq_zero_iff] at hb
    rw [← loNibble_unpackWord_a]
    exact decodeRequest_of_fields hlen rfl rfl rfl (by decide) hop hdev hrsv (setWidth_loNibble _ ha).symm hb
  · exact decodeRequest_of_byteRow 0x6 hlen h rfl rfl rfl (by decide)
  · exact decodeRequest_of_byteRow 0x7 hlen h rfl rfl rfl (by decide)
  · exact decodeRequest_of_wordRow 0x8 hlen h rfl rfl rfl (by decide)
  · exact decodeRequest_of_wordRow 0x9 hlen h rfl rfl rfl (by decide)
  · exact decodeRequest_of_byteRow 0xA hlen h rfl rfl rfl (by decide)
  · obtain ⟨hop, hdev, hrsv, -, hb⟩ := (meets_row_iff w 0xB true 0 0xFF).mp h
    rw [Bool.and_true] at hdev
    rw [and_ff_eq_zero_iff] at hb
    have hlen : p.length = (unpackWord w).a.toNat := hlen.trans (if_pos hop)
    have ha : (unpackWord w).a = BitVec.ofNat 8 p.length := by simp [hlen]
    have hle : p.length ≤ 255 := by rw [hlen]; omega
    have hr : requestOf Config.ref (.lcdPrint p) = ⟨w, p⟩ := by
      rw [requestOf, requestWord_of_fields (d := .panel) (congrArg BitVec.toNat hop) hdev hrsv ha hb]
    exact ⟨hlen, hr ▸ decodeRequest_lcdPrint Config.ref hle⟩
  · exact decodeRequest_of_wordRow 0xC hlen h rfl rfl rfl (by decide)
  · exact decodeRequest_of_byteRow 0xD hlen h rfl rfl rfl (by decide)

/-- Settles O3: a decoded request meets its row (`row_of_decodeRequest`), and a word of any row decodes to an instruction of it
(`operandsComeFromTheFields`). -/
theorem requestWordSelectsRow : Obligations.RequestWordSelectsRow := by
  intro r m k hlen
  constructor
  · rintro ⟨i, hd, hrow⟩
    exact ⟨mem_requestRows hrow, row_of_decodeRequest hd hrow⟩
  · rintro ⟨hmem, h⟩
    obtain ⟨h1, h2, h3, h4, h5, h6, h7, h8, h9, hA, hB, hC, hD⟩ := operandsComeFromTheFields r.word r.payload hlen
    simp only [requestRows, List.mem_cons, Prod.mk.injEq, List.not_mem_nil, or_false] at hmem
    rcases hmem with ⟨rfl, rfl⟩ | ⟨rfl, rfl⟩ | ⟨rfl, rfl⟩ | ⟨rfl, rfl⟩ | ⟨rfl, rfl⟩ | ⟨rfl, rfl⟩ | ⟨rfl, rfl⟩ | ⟨rfl, rfl⟩ |
      ⟨rfl, rfl⟩ | ⟨rfl, rfl⟩ | ⟨rfl, rfl⟩ | ⟨rfl, rfl⟩ | ⟨rfl, rfl⟩
    · exact ⟨_, h1 h, rfl⟩
    · exact ⟨_, h2 h, rfl⟩
    · exact ⟨_, h3 h, rfl⟩
    · exact ⟨_, (h4 h).2, rfl⟩
    · exact ⟨_, h5 h, rfl⟩
    · exact ⟨_, h6 h, rfl⟩
    · exact ⟨_, h7 h, rfl⟩
    · exact ⟨_, h8 h, rfl⟩
    · exact ⟨_, h9 h, rfl⟩
    · exact ⟨_, hA h, rfl⟩
    · exact ⟨_, (hB h).2, rfl⟩
    · exact ⟨_, hC h, rfl⟩
    · exact ⟨_, hD h, rfl⟩

/-- Settles O4: a word of two rows has the opcode of both (`op_of_meets_row`), and no two rows share one. -/
theorem requestRowsDisjoint : Obligations.RequestRowsDisjoint := by
  intro w m k m' k' hmem hmem' h h'
  have hopcodes : requestRows.all (fun row => requestRows.all fun row' =>
      (unpackWord row.1).op != (unpackWord row'.1).op || row == row') = true := rfl
  have hpair := List.all_eq_true.mp (List.all_eq_true.mp hopcodes (m, k) hmem) (m', k') hmem'
  rw [Bool.or_eq_true, bne_iff_ne, beq_iff_eq] at hpair
  exact hpair.resolve_left fun hne => hne ((op_of_meets_row hmem h).trans (op_of_meets_row hmem' h').symm)

/-- Settles O6: the examples are evaluated. -/
theorem exampleWordsDecode : Obligations.ExampleWordsDecode := by
  refine ⟨by decide, fun w hw i hi => ?_⟩
  have hillegal : ([0x000000, 0xE00000, 0x880000, 0x400401, 0x501300, 0x210000] : List ReqWord).map
      (fun w => decodeRequest ⟨w, []⟩) = [.illegal .reservedOpcode, .illegal .reservedOpcode, .illegal .deviceBit,
        .illegal .selector, .illegal .operandBits, .illegal .reservedBits] := by decide
  have hmem := List.mem_map_of_mem (f := fun w => decodeRequest ⟨w, []⟩) hw
  rw [hillegal, hi] at hmem
  simp at hmem

/-- Settles O7: the link's three bytes give the word back (`append_serial_word`), and its OP field the length of what follows. -/
theorem serialLinkFramesRequests : Obligations.SerialLinkFramesRequests := by
  refine ⟨fun w => rfl, fun r rest hlen => ⟨rfl, ?_, ?_, ?_⟩⟩
  · rw [← hlen, Request.serial]
    simp only [List.length_cons]
    omega
  · simp only [Request.serial, List.cons_append, takeRequest, append_serial_word, ← hlen]
    simp
  · intro n hn
    match n with
    | 0 => rfl
    | 1 => rfl
    | 2 => rfl
    | n + 3 =>
      have hshort : (r.payload.take n).length < payloadLength r.word := by
        simp only [Request.serial, List.length_cons] at hn
        rw [List.length_take]
        omega
      simp only [Request.serial, List.take_succ_cons, takeRequest, append_serial_word]
      exact if_pos hshort

/-- Settles O9: the byte is so defined, and its parts are read back under each of the three masks (`portb_fields`). -/
theorem portBByteFields : Obligations.PortBByteFields := by
  intro cfg sel n en ⟨hmask, _⟩
  refine ⟨?_, portb_fields hmask sel n en⟩
  cases sel <;> rfl

end Sys2Proof.Proofs

/-!
What the display controller latches (30_encoding.md R68, R69): the writes of an LCD request are whole transfers, and a transfer
latches its own nibble whatever the level before it. Beside it, what a ready block does with the codes of R66 and R70.
-/
namespace Sys2Proof.Machine

/-! ### Submitting to a ready block, and the step that does -/

theorem exec_accepted {i : Instr} {s : State} (h : Ready s) (hp : precondition s i = none) (hu : expand s.cfg i ≠ []) :
    exec i s = .next (accepted s (requestOf s.cfg i) (expand s.cfg i)) := by
  rw [exec_eq, hp, submit_accepted h _ hu]

theorem step_decoded {s : State} {r : Request} {rest : List Byte} {i : Instr} (hm : s.mover = .host)
    (hl : takeRequest s.link = some (r, rest)) (hd : decodeRequest r = .ok i) :
    step s = exec i (s.takeTurn.setLink rest) := by
  simp only [step, hm, hl, hd]

/-! ### Transfers and what is latched (R68) -/

/-- The levels that transfers of the given nibbles write: each with enable set, then with enable clear (R112). -/
def transferLevels (cfg : Config) (ls : List Latch) : List Byte :=
  ls.flatMap fun l => [portb cfg l.sel l.n true, portb cfg l.sel l.n false]

theorem transferLevels_append (cfg : Config) (ls ls' : List Latch) :
    transferLevels cfg (ls ++ ls') = transferLevels cfg ls ++ transferLevels cfg ls' :=
  List.flatMap_append

/-- Whatever the level before it, a transfer latches its own nibble: enable rises, then falls with the nibble on the lines. -/
theorem latchesFrom_transferLevels {cfg : Config} (hwf : cfg.wf) (ls : List Latch) :
    ∀ prev, latchesFrom cfg prev (transferLevels cfg ls) = ls := by
  obtain ⟨hmask, -⟩ := hwf
  induction ls with
  | nil => exact fun _ => rfl
  | cons l ls ih =>
    intro prev
    obtain ⟨-, -, hset, -⟩ := portb_fields hmask l.sel l.n true
    obtain ⟨hsel, hn, hclear, -⟩ := portb_fields hmask l.sel l.n false
    have hrise : ¬EnableFalls cfg prev (portb cfg l.sel l.n true) := fun hf => hset.mpr rfl hf.1
    have hfall : EnableFalls cfg (portb cfg l.sel l.n true) (portb cfg l.sel l.n false) :=
      ⟨Decidable.not_not.mp (mt hclear.mp Bool.false_ne_true), hset.mpr rfl⟩
    have hrest := ih (portb cfg l.sel l.n false)
    rw [transferLevels] at hrest ⊢
    simp only [List.flatMap_cons, List.cons_append, List.nil_append, latchesFrom, if_neg hrise, if_pos hfall, hsel, hn,
      hrest]

/-- A trace whose writes to the display's port are whole transfers latches their nibbles, whatever is drawn. -/
theorem latched_of_transfers {cfg : Config} (hwf : cfg.wf) (d : FirstDraw) {es : List Event} {ls : List Latch}
    (h : lcdWrites cfg es = transferLevels cfg ls) : latched cfg d es = ls := by
  rw [latched_enable_set, h, latchesFrom_transferLevels hwf]
  intro v hv
  rw [h] at hv
  cases ls with
  | nil => cases hv
  | cons l ls =>
    obtain ⟨-, -, hset, -⟩ := portb_fields hwf.1 l.sel l.n true
    cases hv
    exact hset.mpr rfl

theorem latched_congr {cfg : Config} (d : FirstDraw) {es es' : List Event} (h : lcdWrites cfg es = lcdWrites cfg es') :
    latched cfg d es = latched cfg d es' := by
  unfold latched
  rw [h]

/-! ### What an expansion sends -/

/-- Where its transactions succeed, the micro-ops write the display's port as transfers of these nibbles and no other way. -/
def Sends (cfg : Config) (us : List MicroOp) (ls : List Latch) : Prop :=
  ∀ as, lcdWrites cfg (uopEvents us as) = transferLevels cfg ls

theorem Sends.append {cfg : Config} {us vs : List MicroOp} {ls ls' : List Latch} (h : Sends cfg us ls) (h' : Sends cfg vs ls') :
    Sends cfg (us ++ vs) (ls ++ ls') := fun as => by
  rw [uopEvents_append, lcdWrites_append, h, h', transferLevels_append]

theorem sends_nil (cfg : Config) : Sends cfg [] [] := fun _ => rfl

theorem sends_delay (cfg : Config) (ms : Nat) : Sends cfg [.delay ms] [] := fun _ => rfl

theorem sends_xfer (cfg : Config) (sel : Selector) (n : Nibble) : Sends cfg (xfer cfg sel n) [⟨sel, n⟩] := fun as => by
  simp [xfer, uopEvents, lcdWrites, transferLevels]

/-- The two nibbles of a byte, high half first (R72). -/
def byteLatches (sel : Selector) (b : Byte) : List Latch := [⟨sel, hiNibble b⟩, ⟨sel, loNibble b⟩]

theorem sends_instrNib (cfg : Config) (n : Nibble) : Sends cfg (instrNib cfg n) [⟨.instr, n⟩] :=
  sends_xfer cfg .instr n

theorem sends_instrByte (cfg : Config) (b : Byte) : Sends cfg (instrByte cfg b) (byteLatches .instr b) :=
  (sends_instrNib cfg _).append (sends_instrNib cfg _)

theorem sends_charSend (cfg : Config) (c : Byte) : Sends cfg (charSend cfg c) (byteLatches .data c) :=
  ((sends_xfer cfg .data _).append (sends_xfer cfg .data _)).append (sends_delay cfg _)

theorem sends_printPause (cfg : Config) : Sends cfg (printPause cfg) [] := by
  unfold printPause
  split
  · exact sends_delay cfg _
  · exact sends_nil cfg

theorem sends_printText (cfg : Config) (text : List Byte) :
    Sends cfg (printText cfg text) (text.flatMap (byteLatches .data)) := by
  match text with
  | [] => exact sends_nil cfg
  | [c] => exact sends_charSend cfg c
  | c :: d :: rest =>
    exact ((sends_charSend cfg c).append (sends_printPause cfg)).append (sends_printText cfg (d :: rest))

/-- The four single nibbles of an LCD_INIT (R124). -/
def initNibbles : List Nibble := [init8bitNibble, init8bitNibble, init8bitNibble, set4bitNibble]

/-- The instruction bytes of the end of an LCD_INIT, a clear and the return home the parameter asks for (R124). -/
def finalBytes (cfg : Config) : List Byte := clearByte :: if cfg.initFinalHome then [homeByte] else []

/-- The instruction bytes of an LCD_INIT (R124). -/
def initBytes (cfg : Config) : List Byte := [functionSetByte, displayOnByte, entryModeByte] ++ finalBytes cfg

/-- The four single nibbles of an LCD_INIT and then instruction bytes, as a reader of the stream has them (R69). -/
def initLatches (bs : List Byte) : List Latch :=
  initNibbles.map (Latch.mk .instr) ++ bs.flatMap (byteLatches .instr)

theorem sends_finalClear (cfg : Config) :
    Sends cfg (finalClear cfg) ((finalBytes cfg).flatMap (byteLatches .instr)) := by
  have hclear := (sends_instrByte cfg clearByte).append (sends_delay cfg cfg.tClearMs)
  unfold finalClear finalBytes
  split
  · exact (hclear.append (sends_instrByte cfg homeByte)).append (sends_delay cfg cfg.tHomeMs)
  · exact hclear

theorem sends_initSequence (cfg : Config) : Sends cfg (initSequence cfg) (initLatches (initBytes cfg)) :=
  ((((((((sends_instrNib cfg init8bitNibble).append (sends_delay cfg cfg.tPoweronMs)).append
    (sends_instrNib cfg init8bitNibble)).append (sends_instrNib cfg init8bitNibble)).append
    (sends_instrNib cfg set4bitNibble)).append (sends_instrByte cfg functionSetByte)).append
    (sends_instrByte cfg displayOnByte)).append (sends_instrByte cfg entryModeByte)).append (sends_finalClear cfg)

/-! ### Reading pairs (R69) -/

theorem pairBytes_flatMap (sel : Selector) (bs : List Byte) : pairBytes (bs.flatMap (byteLatches sel)) = bs := by
  induction bs with
  | nil => rfl
  | cons b bs ih => simp [byteLatches, ih]

theorem length_flatMap_byteLatches (sel : Selector) (bs : List Byte) :
    (bs.flatMap (byteLatches sel)).length = 2 * bs.length := by
  induction bs with
  | nil => rfl
  | cons b bs ih =>
    rw [List.flatMap_cons, List.length_append, ih, List.length_cons, byteLatches, List.length_cons, List.length_singleton]
    omega

theorem pairCodes_flatMap {sel : Selector} {code : Byte → Decoded}
    (h : ∀ b, pairCode ⟨sel, hiNibble b⟩ ⟨sel, loNibble b⟩ = code b) (bs : List Byte) :
    pairCodes (bs.flatMap (byteLatches sel)) = bs.map code := by
  induction bs with
  | nil => rfl
  | cons b bs ih => simp [byteLatches, pairCodes, h, ih]

theorem pairCode_instr (b : Byte) : pairCode ⟨.instr, hiNibble b⟩ ⟨.instr, loNibble b⟩ = decodeLcdInstr b := by
  simp [pairCode]

theorem pairCode_data (c : Byte) : pairCode ⟨.data, hiNibble c⟩ ⟨.data, loNibble c⟩ = .ok (.writeData c) := by
  simp [pairCode]

/-! ### The events of a request -/

theorem req_notMem_uopEvents (w : ReqWord) (p : List Byte) (us : List MicroOp) : ∀ as, .req w p ∉ uopEvents us as := by
  induction us with
  | nil => exact fun _ => List.not_mem_nil
  | cons u us ih => cases u <;> simp [uopEvents, ih]

theorem bytesSinceInit_refused (cfg : Config) (d : FirstDraw) (tr : List Event) (w : ReqWord) (p : List Byte) {e : Event}
    (he : e = .fltFaulted ∨ ∃ c, e = .flt c) : bytesSinceInit cfg d (tr ++ [.req w p, e]) = bytesSinceInit cfg d tr := by
  have hsince : sinceInit (tr ++ [.req w p, e]) = (sinceInit tr).map (· ++ [.req w p, e]) := by
    rcases he with rfl | ⟨c, rfl⟩ <;> exact sinceInit_refused tr w p _ rfl rfl
  have hwrites : lcdWrites cfg [.req w p, e] = [] := by
    rcases he with rfl | ⟨c, rfl⟩ <;> rfl
  have hlatched : ∀ es, latched cfg d (es ++ [.req w p, e]) = latched cfg d es := fun es =>
    latched_congr d (by rw [lcdWrites_append, hwrites, List.append_nil])
  simp only [bytesSinceInit, hsince, Option.map_map, Function.comp_def, hlatched]

/-- What follows the word of an LCD_INIT is read as its four single nibbles and then bytes. -/
theorem bytesSinceInit_of_transfers {cfg : Config} (hwf : cfg.wf) (d : FirstDraw) (pre : List Event) {es : List Event}
    {bs : List Byte} (hw : beginsWithWrite es = true) (hreq : .req 0x800000 [] ∉ es)
    (h : lcdWrites cfg es = transferLevels cfg (initLatches bs)) :
    bytesSinceInit cfg d (pre ++ [.req 0x800000 []] ++ es) = some bs := by
  rw [bytesSinceInit, sinceInit_after pre es hw hreq, Option.map_some, latched_of_transfers hwf d h]
  exact congrArg some (pairBytes_flatMap .instr bs)

theorem displayCodes_initLatches (bs : List Byte) :
    displayCodes (initLatches bs) = initNibbles.map decodeLcdNibble ++ bs.map decodeLcdInstr := by
  rw [← pairCodes_flatMap pairCode_instr]
  rfl

theorem requestWord_op_ne {op op' : BitVec 4} {d d' : Device} {a a' b b' : Byte} (h : op ≠ op') :
    requestWord op d a b ≠ requestWord op' d' a' b' := fun heq => by
  have hf := congrArg ReqFields.op (congrArg unpackWord heq)
  rw [unpackWord_requestWord, unpackWord_requestWord] at hf
  exact h hf

end Sys2Proof.Machine

namespace Sys2Proof.Proofs

open Sys2Proof.Machine

/-- Settles O57: an LCD_INIT sends its four nibbles and then its bytes (`sends_initSequence`), an LCD_INSTR_BYTE after it one more, so
the pairs from the fifth nibble on are those bytes (`bytesSinceInit_of_transfers`); a refused request adds no write
(`bytesSinceInit_refused`). -/
theorem initSendsItsCodes : Obligations.InitSendsItsCodes := by
  intro cfg d as hwf
  refine ⟨?_, fun pre b as' => ?_, fun tr w p => ⟨fun c => ?_, ?_⟩⟩
  · have hlatched : latched cfg d (uopEvents (expand cfg .lcdInit) as) = initLatches (initBytes cfg) :=
      latched_of_transfers hwf d (sends_initSequence cfg as)
    rw [hlatched, displayCodes_initLatches, initBytes, finalBytes]
    split <;> rfl
  · have hword : 0x800000#24 ≠ (requestOf cfg (.lcdInstrByte b)).word :=
      requestWord_op_ne (op := 0x8) (d := .panel) (a := 0) (b := 0) (by decide)
    have hwrites : lcdWrites cfg (uopEvents (expand cfg .lcdInit) as ++
        [.done none, .req (requestOf cfg (.lcdInstrByte b)).word []] ++ uopEvents (expand cfg (.lcdInstrByte b)) as' ++
        [.done none]) = transferLevels cfg (initLatches (initBytes cfg ++ [b])) := by
      have hinit : lcdWrites cfg (uopEvents (expand cfg .lcdInit) as) = _ := sends_initSequence cfg as
      have hbyte : lcdWrites cfg (uopEvents (expand cfg (.lcdInstrByte b)) as') = _ := sends_instrByte cfg b as'
      simp only [lcdWrites_append, hinit, hbyte, initLatches, transferLevels_append, List.flatMap_append, List.append_assoc]
      rfl
    have h := bytesSinceInit_of_transfers hwf d pre rfl (by simp [req_notMem_uopEvents, hword]) hwrites
    simp only [List.append_assoc] at h ⊢
    exact h
  · exact bytesSinceInit_refused cfg d tr w p (.inr ⟨c, rfl⟩)
  · exact bytesSinceInit_refused cfg d tr w p (.inl rfl)

/-- Settles O58: a string sends the two nibbles of each of its characters (`sends_printText`), and pairing them gives it back
(`pairCodes_flatMap`). -/
theorem printSendsItsText : Obligations.PrintSendsItsText := by
  intro cfg d text as hwf
  have hlatched : latched cfg d (uopEvents (expand cfg (.lcdPrint text)) as) = text.flatMap (byteLatches .data) :=
    latched_of_transfers hwf d (sends_printText cfg text as)
  rw [hlatched]
  exact ⟨pairCodes_flatMap pairCode_data text, length_flatMap_byteLatches .data text⟩

/-- Settles O23: each of these codes has LCD_INSTR_NIBBLE's, LCD_INSTR_BYTE's or LCD_CHAR's expansion, none of them empty
(`exec_accepted`); the set-DDRAM byte and its nibbles are R71's. -/
theorem displayCodesAccepted : Obligations.DisplayCodesAccepted := by
  intro s a c h hl
  have hcheck : checkReady s = none := if_pos hl
  obtain ⟨hddram, -⟩ := ddramByteSetsBitSeven
  obtain ⟨hbyte, hhi, hlo⟩ := hddram a
  refine ⟨?_, ?_, ?_, ?_, ?_, ?_, ?_, ?_, ?_⟩
  case refine_8 =>
    rw [← hbyte, ← hhi, ← hlo]
    exact exec_accepted h hcheck (List.cons_ne_nil _ _)
  all_goals exact exec_accepted h hcheck (List.cons_ne_nil _ _)

/-- Settles O24: the code goes as a BUS_WRITE, which has no precondition (R90). -/
theorem portBByteAccepted : Obligations.PortBByteAccepted :=
  fun _ _ _ _ h => exec_accepted h rfl (List.cons_ne_nil _ _)

/-- Settles O31: the branches of the step, with the turn used up and the request taken from the link. -/
theorem stepRunsTheDecodedRequest : Obligations.StepRunsTheDecodedRequest :=
  ⟨fun _ _ _ _ hm hl hd => step_decoded hm hl hd, fun _ _ _ _ hm hl hd => step_illegal hm hl hd,
    fun _ hm hl => step_wait hm hl, fun _ hm => step_block hm⟩

/-- Settles O32: a word of no row decodes to no instruction (`decodeRequest_illegal`), and a ready block rejects it
(`submit_rejected`). -/
theorem illegalWordsFault : Obligations.IllegalWordsFault := by
  intro s r rest hready hm hl hrow
  obtain ⟨e, hd⟩ := decodeRequest_illegal hrow
  rw [step_illegal hm hl hd]
  exact congrArg Host.Outcome.next (submit_rejected (s := s.takeTurn.setLink rest) hready r .illegalRequest [])

end Sys2Proof.Proofs

/-!
The register bus (40_register_bus.md R90 to R94): what a write or a read micro-op does under either answer of the bus, and the two
requests that are one such micro-op each.
-/
namespace Sys2Proof.Machine

/-! ### A transaction under the coming answer of the bus -/

theorem perform_busWrite_ok {s : State} (h : s.nextAnswer.ok = true) (d : Device) (reg v : Byte) :
    perform (.busWrite d reg v) s = (s.takeAnswer.emit (.wr d reg v true)).setShadow d reg v :=
  if_pos h

theorem perform_busWrite_failed {s : State} (h : s.nextAnswer.ok = false) (d : Device) (reg v : Byte) :
    perform (.busWrite d reg v) s = ((s.takeAnswer.emit (.wr d reg v false)).clearShadow d reg).raise
      { cause := .fatalIO, reqWord := s.reqWord, upc := s.upc
        txn := some { kind := .write, dev := d, reg := reg, value := some v } } := by
  simp [perform, performWrite, h]

theorem perform_busRead_ok {s : State} (h : s.nextAnswer.ok = true) (d : Device) (reg : Byte) :
    perform (.busRead d reg) s = s.takeAnswer.emit (.rd d reg (some s.nextAnswer.byte)) :=
  if_pos h

theorem perform_busRead_failed {s : State} (h : s.nextAnswer.ok = false) (d : Device) (reg : Byte) :
    perform (.busRead d reg) s = (s.takeAnswer.emit (.rd d reg none)).raise
      { cause := .fatalIO, reqWord := s.reqWord, upc := s.upc
        txn := some { kind := .read, dev := d, reg := reg, value := none } } := by
  simp [perform, performRead, h]

theorem perform_busRead_shadow (d : Device) (reg : Byte) (s : State) : (perform (.busRead d reg) s).shadow = s.shadow := by
  cases h : s.nextAnswer.ok with
  | true => rw [perform_busRead_ok h, emit_shadow, takeAnswer_shadow]
  | false => rw [perform_busRead_failed h, raise_shadow, emit_shadow, takeAnswer_shadow]

end Sys2Proof.Machine

namespace Sys2Proof.Proofs

open Sys2Proof.Machine

/-- Settles O11: neither request has a precondition, and its expansion is its one transaction (`exec_accepted`). -/
theorem busRequestsAccepted : Obligations.BusRequestsAccepted :=
  fun _ _ _ _ h => ⟨exec_accepted h rfl (List.cons_ne_nil _ _), exec_accepted h rfl (List.cons_ne_nil _ _)⟩

/-- Settles O33: a write sets or erases its own location of the shadow, as the bus answers, and a failed one raises its fault; no
other location changes (`perform_shadowAt`). -/
theorem writeMicroOp : Obligations.WriteMicroOp := by
  intro d reg v s hs
  refine ⟨fun hok => ?_, fun hfail => ?_, fun d' reg' hne => perform_shadowAt s fun v' hu => ?_⟩
  · rw [perform_busWrite_ok hok]
    exact ⟨by simp, shadowAt_setShadow_same _ d reg v, by simp⟩
  · rw [perform_busWrite_failed hfail]
    have hwf : (s.takeAnswer.emit (.wr d reg v false)).shadow.wf := by simpa using hs
    exact ⟨by simp, shadowAt_clearShadow_same hwf d reg, rfl, rfl, rfl⟩
  · cases hu
    exact hne ⟨rfl, rfl⟩

/-- Settles O34: a read only logs the byte the bus answers, or its failure and the fault; the shadow is read by neither the read nor
the bus. -/
theorem readMicroOp : Obligations.ReadMicroOp := by
  intro d reg s
  refine ⟨fun hok => ?_, fun hfail => ?_, perform_busRead_shadow d reg s, fun _ => rfl⟩
  · rw [perform_busRead_ok hok]
    exact ⟨by simp, rfl, by simp⟩
  · rw [perform_busRead_failed hfail]
    exact ⟨by simp, rfl, rfl, rfl⟩

end Sys2Proof.Proofs

/-!
Configuring an expander (41_expander_config.md R100, R101): what a ready block does with EXP_CONFIG, what the invariant says of one in
progress, and that a faulted block changes only its trace until reset.
-/
namespace Sys2Proof.Machine

/-! ### Acceptance (R100) -/

theorem checkUnconfigured_eq_none {d : Device} {s : State} : checkUnconfigured d s = none ↔ s.configured d = false := by
  cases h : s.configured d <;> simp [checkUnconfigured, h]

theorem checkUnconfigured_of_configured {d : Device} {s : State} (h : s.configured d = true) :
    checkUnconfigured d s = some .reconfigure :=
  if_pos h

theorem exec_rejected {i : Instr} {c : Cause} {s : State} (h : Ready s) (hp : precondition s i = some c) :
    exec i s = .next (rejected s (requestOf s.cfg i) c) := by
  rw [exec_eq, hp, submit_rejected h]

/-! ### A request in progress (R24) -/

/-- The invariant at the own request of an instruction of R62's table. -/
theorem inProgress_of_requestOf {s : State} {i : Instr} (h : Inv s) (hb : s.busy = true)
    (hreq : s.req = some (requestOf s.cfg i)) (hrow : (requestRow i).isSome = true) (hwf : WellFormed i = true) :
    s.fault = none ∧ precondition s i = none ∧ s.uops = expand s.cfg i ∧ ∃ u, s.uops[s.upc]? = some u := by
  obtain ⟨hf, r, j, u, hr, hd, hp, huops, hu⟩ := inProgress_of_inv h hb
  obtain rfl : requestOf s.cfg i = r := Option.some.inj (hreq.symm.trans hr)
  obtain rfl : i = j := Decoded.ok.inj ((decodeRequest_requestOf s.cfg hrow hwf).symm.trans hd)
  exact ⟨hf, hp, huops, u, hu⟩

/-- While EXP_CONFIG is in progress its device is not configured, and the micro-op to come is one of its five writes. -/
theorem expConfig_inProgress {s : State} {d : Device} (h : Inv s) (hb : s.busy = true)
    (hreq : s.req = some (requestOf s.cfg (.expConfig d))) :
    s.fault = none ∧ s.configured d = false ∧ s.uops = configWrites s.cfg d ∧
      ∃ reg v, s.uops[s.upc]? = some (.busWrite d reg v) := by
  obtain ⟨hf, hp, huops, u, hu⟩ := inProgress_of_requestOf h hb hreq rfl rfl
  obtain ⟨reg, v, rfl, -⟩ := eq_busWrite_of_mem_configWrites (huops ▸ List.mem_of_getElem? hu)
  exact ⟨hf, checkUnconfigured_eq_none.mp hp, huops, reg, v, hu⟩

/-- The completion of EXP_CONFIG sets its device's flag and leaves `lcd_ready` alone (R101). -/
theorem complete_expConfig_flags {s : State} {r : Request} {d : Device} (hr : s.req = some r)
    (hd : decodeRequest r = .ok (.expConfig d)) (resp : Option Byte) :
    (s.complete resp).configured d = true ∧ (s.complete resp).lcdReady = s.lcdReady := by
  obtain ⟨hl, hp, hready⟩ := complete_flags hr hd resp
  refine ⟨?_, hready.trans (by simp)⟩
  cases d with
  | lcd => exact hl.trans (by simp)
  | panel => exact hp.trans (by simp)

theorem perform_configured (u : MicroOp) (s : State) (d : Device) : (perform u s).configured d = s.configured d := by
  obtain ⟨-, -, -, hl, hp, -⟩ := perform_frame u s
  cases d with
  | lcd => exact hl
  | panel => exact hp

/-! ### Steps of the sequencer -/

/-- A last micro-op that succeeds completes the request (R24, R35). -/
theorem sequencer_last {s : State} {u : MicroOp} (hb : s.busy = true) (hf : s.fault = none)
    (hu : s.uops[s.upc]? = some u) (hlast : s.upc + 1 = s.uops.length) (hok : AllSucceed [u] s) :
    sequencer s = .next ((s.afterUops [u]).complete (returned u s)) := by
  obtain ⟨-, -, -, -, hfault⟩ := perform_ok (uopOk_of_allSucceed hok)
  obtain ⟨-, -, hdone⟩ := Proofs.sequencerStep s u hb hf hu
  rw [hdone (hfault.trans hf) hlast, perform_eq_afterUops hok]

/-- A write that fails ends the step with the block faulted (R24, R91). -/
theorem sequencer_failed_write {s : State} {d : Device} {reg v : Byte} (hb : s.busy = true) (hf : s.fault = none)
    (hu : s.uops[s.upc]? = some (.busWrite d reg v)) (hfail : s.nextAnswer.ok = false) :
    sequencer s = .next (perform (.busWrite d reg v) s) ∧ (perform (.busWrite d reg v) s).fault.isSome = true := by
  have hfault : (perform (.busWrite d reg v) s).fault.isSome = true := by rw [perform_busWrite_failed hfail]; rfl
  exact ⟨by rw [sequencer_at hb hf hu, advance_faulted hfault], hfault⟩

/-! ### A faulted block -/

/-- A step of a faulted block that is no reset changes nothing of it but the trace: the fault and the flags stay (R166, R168). -/
theorem step_of_faulted {s t : State} (hf : s.fault.isSome = true) (hm : s.mover ≠ .reset) (hs : step s = .next t) :
    t = { s with trace := t.trace, link := t.link, turns := t.turns } := by
  rcases step_cases s with
    ⟨hm', -⟩ | ⟨hm', -⟩ | ⟨hm', hl, -⟩ | ⟨r, rest, e, hm', hl, hd, -⟩ | ⟨r, rest, i, hm', hl, hd, -⟩
  · exact absurd hm' hm
  · rw [step_block hm', sequencer_still (s := s.takeTurn) (.inr hf)] at hs
    cases hs
    rfl
  · rw [step_wait hm' hl] at hs
    cases hs
    rfl
  · rw [step_illegal hm' hl hd, submitIllegal, submit_faulted (s := s.takeTurn.setLink rest) hf] at hs
    cases hs
    rfl
  · rw [step_request hm' hl hd, submit_faulted (s := s.takeTurn.setLink rest) hf] at hs
    cases hs
    rfl

end Sys2Proof.Machine

namespace Sys2Proof.Proofs

open Sys2Proof.Machine

/-- Settles O38: EXP_CONFIG in progress is at one of its five writes with the device not configured (`expConfig_inProgress`). The
fifth completes the request, which sets the flag; one that fails sets none; and a faulted block changes neither fault nor flags
(`step_of_faulted`). -/
theorem expConfigCompletes : Obligations.ExpConfigCompletes := by
  intro s d h hb hreq
  obtain ⟨hf, hd, huops, reg, v, hu⟩ := expConfig_inProgress h hb hreq
  refine ⟨fun hupc hok => ?_, fun hfail => ?_, fun u w hfault hdevice hm hs => ?_⟩
  · have hfifth : s.uops[s.upc]? = some (.busWrite d s.cfg.regDataB 0x00) := by rw [huops, hupc]; rfl
    have hlast : s.upc + 1 = s.uops.length := by rw [huops, hupc]; rfl
    have hstep := sequencer_last hb hf hfifth hlast (by simpa [busCount, nextAnswers] using hok)
    obtain ⟨hconf, hready⟩ := complete_expConfig_flags (s := s.afterUops _) hreq (decodeRequest_requestOf s.cfg rfl rfl) none
    obtain ⟨-, -, -, -, -, hfault⟩ := complete_frame (s.afterUops [.busWrite d s.cfg.regDataB 0x00]) none
    exact ⟨_, hstep, hconf, rfl, hfault.trans hf, hready, by simp [State.afterUops, uopEvents, returned]⟩
  · obtain ⟨hstep, hfault⟩ := sequencer_failed_write hb hf hu hfail
    exact ⟨_, hstep, (perform_configured _ s d).trans hd, hfault⟩
  · rw [step_of_faulted hfault hm hs]
    exact ⟨rfl, by cases d <;> exact hdevice⟩

/-- Settles O12: the device is not configured, so the request is accepted with its five writes (`exec_accepted`). -/
theorem expConfigAccepted : Obligations.ExpConfigAccepted :=
  fun _ _ h hd => exec_accepted h (checkUnconfigured_eq_none.mpr hd) (List.cons_ne_nil _ _)

/-- Settles O13: the failed precondition is the cause the block rejects the request with (`exec_rejected`). -/
theorem expConfigReconfigures : Obligations.ExpConfigReconfigures :=
  fun _ _ h hd => exec_rejected h (checkUnconfigured_of_configured hd)

end Sys2Proof.Proofs

/-!
The LCD driver (42_lcd_driver.md R110 to R142): what a ready block does with each of its requests, what a transfer latches, how
LCD_INIT ends, and what each request costs.
-/
namespace Sys2Proof.Machine

/-! ### Acceptance (R110) -/

theorem checkReady_of_ready {s : State} (h : s.lcdReady = true) : checkReady s = none := if_pos h

theorem checkReady_of_not_ready {s : State} (h : s.lcdReady = false) : checkReady s = some .notInitialized :=
  if_neg (Bool.eq_false_iff.mp h)

theorem checkConfigured_of_not_configured {d : Device} {s : State} (h : s.configured d = false) :
    checkConfigured d s = some .notConfigured :=
  if_neg (Bool.eq_false_iff.mp h)

theorem exec_accepted_of_expand {i : Instr} {s : State} {us : List MicroOp} (h : Ready s) (hp : precondition s i = none)
    (hexpand : expand s.cfg i = us) (hu : us ≠ []) : exec i s = .next (accepted s (requestOf s.cfg i) us) := by
  subst hexpand
  exact exec_accepted h hp hu

/-! ### Expansions (R112, R134, R140) -/

/-- A transfer's second write is its first without the enable bit. -/
theorem xfer_eq (cfg : Config) (sel : Selector) (n : Nibble) : xfer cfg sel n =
    [.busWrite .lcd cfg.regDataB (remap n ||| sel.byte ||| cfg.enMask), .busWrite .lcd cfg.regDataB (remap n ||| sel.byte)] := by
  simp [xfer, portb]

theorem setLine_of_lineAddr {cfg : Config} {line : Byte} {a : DdramAddr} (h : lineAddr line = some a) :
    setLine cfg line = instrByte cfg (ddramByte a) := by
  simp only [setLine, h]

theorem lineAddr_of_lt {line : Byte} (h : line < 4) : ∃ a, lineAddr line = some a := by
  have hlt : line.toNat < ([0, 64, 20, 84] : List DdramAddr).length := BitVec.lt_def.mp h
  exact ⟨_, (if_pos h).trans (List.getElem?_eq_getElem hlt)⟩

/-- Every character but the last is followed by the extra pause. -/
theorem printText_append_single (cfg : Config) (text : List Byte) (last : Byte) :
    printText cfg (text ++ [last]) = text.flatMap (fun c => charSend cfg c ++ printPause cfg) ++ charSend cfg last := by
  induction text with
  | nil => rfl
  | cons c text ih =>
    obtain ⟨d, rest, hrest⟩ : ∃ d rest, text ++ [last] = d :: rest := List.exists_cons_of_ne_nil (by simp)
    rw [List.cons_append, hrest, printText_cons_cons, ← hrest, ih, List.flatMap_cons]
    simp only [List.append_assoc]

/-- Without an extra pause a string is its characters and nothing else. -/
theorem printText_cons_of_no_pause {cfg : Config} (h : printPause cfg = []) (c : Byte) (rest : List Byte) :
    printText cfg (c :: rest) = charSend cfg c ++ printText cfg rest := by
  cases rest with
  | nil => rw [printText_single, printText_nil, List.append_nil]
  | cons d rest => rw [printText_cons_cons, h, List.append_nil]

/-! ### The end of LCD_INIT (R124, R126) -/

theorem initSequence_getLast (cfg : Config) : (initSequence cfg).getLast? =
    some (.delay (if cfg.initFinalHome then cfg.tHomeMs else cfg.tClearMs)) := by
  have hfinal : (finalClear cfg).getLast? = some (.delay (if cfg.initFinalHome then cfg.tHomeMs else cfg.tClearMs)) := by
    unfold finalClear clearHome
    split <;> rw [List.getLast?_concat]
  rw [initSequence, List.getLast?_append, hfinal, Option.some_or]

/-- A last micro-op that is a delay completes the request whatever the bus would answer (R52). -/
theorem sequencer_last_delay {s : State} {ms : Nat} (hb : s.busy = true) (hf : s.fault = none)
    (hu : s.uops.getLast? = some (.delay ms)) (hlast : s.upc + 1 = s.uops.length) :
    sequencer s = .next ((s.afterUops [.delay ms]).complete none) := by
  rw [List.getLast?_eq_getElem?, ← hlast, Nat.add_sub_cancel] at hu
  exact sequencer_last hb hf hu hlast rfl

/-! ### What a transfer latches (R113) -/

theorem latched_of_enable_rise {cfg : Config} {es : List Event} {v : Byte} (d : FirstDraw) (h : lcdWrites cfg es = [v])
    (hv : v &&& cfg.enMask ≠ 0) : latched cfg d es = [] := by
  have hrise : ¬EnableFalls cfg d.level v := fun hf => hv hf.1
  rw [latched_of_writes d h, if_neg hrise, latchesFrom, List.append_nil]

theorem lcdWrites_xfer_first (cfg : Config) (sel : Selector) (n : Nibble) (as : List BusAnswer) :
    lcdWrites cfg (uopEvents ((xfer cfg sel n).take 1) as) = [portb cfg sel n true] := by
  simp [xfer, uopEvents, lcdWrites]

theorem portb_true_and_not_enMask {cfg : Config} (h : cfg.wf) (sel : Selector) (n : Nibble) :
    portb cfg sel n true &&& ~~~cfg.enMask = portb cfg sel n false := by
  obtain ⟨hmask, -⟩ := h
  rcases hmask with h | h | h
  all_goals
    rw [portb, portb, h]
    revert n
    cases sel <;> decide

/-! ### What a request costs (R142) -/

/-- The bus transactions, the micro-ops and the least delay of a list of micro-ops whose transactions all succeed. -/
def uopCost (us : List MicroOp) (as : List BusAnswer) : Nat × Nat × Nat :=
  (busCount us, us.length, minElapsedMs (uopEvents us as))

theorem minElapsedMs_append (es fs : List Event) : minElapsedMs (es ++ fs) = minElapsedMs es + minElapsedMs fs := by
  induction es with
  | nil => exact (Nat.zero_add _).symm
  | cons e es ih => cases e <;> simp [minElapsedMs, ih, Nat.add_assoc]

theorem uopCost_append {us vs : List MicroOp} {as : List BusAnswer} {b n ms b' n' ms' : Nat}
    (h : uopCost us as = (b, n, ms)) (h' : uopCost vs (as.drop (busCount us)) = (b', n', ms')) :
    uopCost (us ++ vs) as = (b + b', n + n', ms + ms') := by
  simp only [uopCost, Prod.mk.injEq] at h h' ⊢
  obtain ⟨hb, hn, hms⟩ := h
  obtain ⟨hb', hn', hms'⟩ := h'
  rw [busCount_append, List.length_append, uopEvents_append, minElapsedMs_append, hb', hn, hn', hms, hms', hb]
  exact ⟨rfl, rfl, rfl⟩

theorem uopCost_charSend (cfg : Config) (c : Byte) (as : List BusAnswer) :
    uopCost (charSend cfg c) as = (4, 5, cfg.tCharMs) := rfl

/-- With default parameters a character costs four transactions, five micro-ops and one millisecond, and nothing comes between two
characters. -/
theorem uopCost_printText (cfg : Config) (text : List Byte) : ∀ as,
    uopCost (printText cfg.withDefaults text) as = (4 * text.length, 5 * text.length, text.length) := by
  induction text with
  | nil => exact fun _ => rfl
  | cons c text ih =>
    intro as
    rw [printText_cons_of_no_pause rfl, uopCost_append (uopCost_charSend _ c as) (ih _), List.length_cons]
    simp only [Config.withDefaults, Prod.mk.injEq]
    omega

theorem uopCost_setLine (cfg : Config) (line : Byte) (as : List BusAnswer) :
    uopCost (setLine cfg line) as = if line < 4 then (4, 4, 0) else (0, 0, 0) := by
  split
  · next h =>
    obtain ⟨a, ha⟩ := lineAddr_of_lt h
    rw [setLine_of_lineAddr ha]
    rfl
  · next h =>
    rw [setLine, lineAddr_eq_none h]
    rfl

end Sys2Proof.Machine

namespace Sys2Proof.Proofs

open Sys2Proof.Machine

/-- Settles O21: the string is expanded character by character (`printText_append_single`). -/
theorem printAccepted : Obligations.PrintAccepted := by
  intro s text last h hl
  exact exec_accepted_of_expand h (checkReady_of_ready hl) (printText_append_single s.cfg text last)
    (List.append_ne_nil_of_right_ne_nil _ (List.cons_ne_nil _ _))

/-- Settles O39: the last micro-op is the final clear's delay (`initSequence_getLast`), which no answer of the bus can fail, and the
completion it brings sets the flag. -/
theorem initCompletes : Obligations.InitCompletes := by
  intro s h hb hreq hlast
  obtain ⟨hf, -, huops, -⟩ := inProgress_of_requestOf h hb hreq rfl rfl
  have hu := (congrArg List.getLast? huops).trans (initSequence_getLast s.cfg)
  obtain ⟨-, -, hready⟩ := complete_flags (s := s.afterUops _) hreq (decodeRequest_requestOf s.cfg rfl rfl) none
  obtain ⟨-, -, -, -, -, hfault⟩ := complete_frame (s.afterUops _) none
  exact ⟨_, sequencer_last_delay hb hf hu hlast, hready.trans (by simp), rfl, hfault.trans hf,
    by simp [State.afterUops, uopEvents]⟩

/-- Settles O56: the two writes are a transfer of the one nibble (`sends_xfer`), the first of them raises the enable line. -/
theorem transferLatchesItsNibble : Obligations.TransferLatchesItsNibble := by
  intro cfg d sel n as hwf
  obtain ⟨-, -, hset, -⟩ := portb_fields hwf.1 sel n true
  exact ⟨latched_of_transfers hwf d (sends_xfer cfg sel n as),
    latched_of_enable_rise d (lcdWrites_xfer_first cfg sel n as) (hset.mpr rfl), portb_true_and_not_enMask hwf sel n⟩

/-- Settles O60: with R7's values for the delays and choices the expansions of fixed length are evaluated; a line number and a string
have their cost by their lemmas. -/
theorem requestCosts : Obligations.RequestCosts := by
  intro cfg sel n b text as hcfg
  rw [hcfg]
  exact ⟨rfl, rfl, rfl, rfl, rfl, rfl, uopCost_setLine _ b as, uopCost_printText cfg text as⟩

/-- Settles O14: both requests are one transfer (`xfer_eq`), LCD_INSTR_NIBBLE's with the instruction selector. -/
theorem nibbleRequestsAccepted : Obligations.NibbleRequestsAccepted := by
  intro s sel n h hl
  have hcheck := checkReady_of_ready hl
  exact ⟨exec_accepted_of_expand h hcheck (xfer_eq s.cfg sel n) (List.cons_ne_nil _ _),
    exec_accepted_of_expand h hcheck (xfer_eq s.cfg .instr n) (List.cons_ne_nil _ _)⟩

/-- Settles O15: the expansion is the two transfers of R116. -/
theorem instrByteAccepted : Obligations.InstrByteAccepted :=
  fun _ _ h hl => exec_accepted h (checkReady_of_ready hl) (List.cons_ne_nil _ _)

/-- Settles O16: the expansion is the two transfers and the delay of R120. -/
theorem charAccepted : Obligations.CharAccepted :=
  fun _ _ h hl => exec_accepted h (checkReady_of_ready hl) (List.cons_ne_nil _ _)

/-- Settles O17: the LCD device is configured, so the request is accepted with the sequence of R124, whatever `lcd_ready` is. -/
theorem initAccepted : Obligations.InitAccepted :=
  fun _ h hd => exec_accepted h (checkConfigured_eq_none.mpr hd) (List.cons_ne_nil _ _)

/-- Settles O18: the expansion is R130's. -/
theorem clearHomeAccepted : Obligations.ClearHomeAccepted :=
  fun _ h hl => exec_accepted h (checkReady_of_ready hl) (List.cons_ne_nil _ _)

/-- Settles O19: each line has its address, and R71 makes the byte of it. -/
theorem setLineAccepted : Obligations.SetLineAccepted := by
  refine ⟨rfl, fun s line b h hl hline => ?_⟩
  obtain ⟨a, ha, rfl⟩ : ∃ a, lineAddr line = some a ∧ ddramByte a = b := by
    simp only [List.mem_cons, Prod.mk.injEq, List.not_mem_nil, or_false] at hline
    rcases hline with ⟨rfl, rfl⟩ | ⟨rfl, rfl⟩ | ⟨rfl, rfl⟩ | ⟨rfl, rfl⟩ <;> exact ⟨_, rfl, rfl⟩
  exact exec_accepted_of_expand h (checkReady_of_ready hl) (setLine_of_lineAddr ha) (List.cons_ne_nil _ _)

/-- Settles O25: the failed precondition is the cause the block rejects the request with (`exec_rejected`). -/
theorem lcdRequestsNeedInitialization : Obligations.LcdRequestsNeedInitialization := by
  intro s sel n b text h
  refine ⟨fun hl i hi => exec_rejected h ?_, fun hd => exec_rejected h (checkConfigured_of_not_configured hd), fun hinv => ?_⟩
  · simp only [List.mem_cons, List.not_mem_nil, or_false] at hi
    rcases hi with rfl | rfl | rfl | rfl | rfl | rfl | rfl <;> exact checkReady_of_not_ready hl
  · obtain ⟨-, -, -, -, hready⟩ := hinv
    exact hready

end Sys2Proof.Proofs

/-!
The button panel (43_button_panel.md R150 to R154): what a ready block does with the two PANEL requests.
-/
namespace Sys2Proof.Machine

/-- The configured PANEL device is the one precondition of both PANEL requests, and neither expands to nothing (R150, R151, R153). -/
theorem panelRequest_precondition_expand {s : State} {v : Byte} {i : Instr}
    (hi : i ∈ [Instr.panelReadButtons, .panelWriteLights v]) :
    precondition s i = checkConfigured .panel s ∧ expand s.cfg i ≠ [] := by
  simp only [List.mem_cons, List.not_mem_nil, or_false] at hi
  rcases hi with rfl | rfl
  · exact ⟨rfl, List.cons_ne_nil _ _⟩
  · exact ⟨rfl, List.cons_ne_nil _ _⟩

end Sys2Proof.Machine

namespace Sys2Proof.Proofs

open Sys2Proof.Machine

/-- Settles O22: the PANEL device is configured, so each request is accepted with its one transaction (`exec_accepted`). -/
theorem panelRequestsAccepted : Obligations.PanelRequestsAccepted := by
  intro s v h hd
  have hcheck : checkConfigured .panel s = none := checkConfigured_eq_none.mpr hd
  exact ⟨exec_accepted h hcheck (List.cons_ne_nil _ _), exec_accepted h hcheck (List.cons_ne_nil _ _)⟩

/-- Settles O26: both requests check the PANEL device's flag and nothing else (`panelRequest_precondition_expand`), so the flag
decides between `exec_rejected` and `exec_accepted`. -/
theorem panelRequestsNeedConfiguration : Obligations.PanelRequestsNeedConfiguration := by
  intro s v h i hi
  obtain ⟨hp, hexpand⟩ := panelRequest_precondition_expand (s := s) hi
  refine ⟨fun hd => exec_rejected h ?_, fun hd => exec_accepted h ?_ hexpand⟩
  · rw [hp]
    exact checkConfigured_of_not_configured hd
  · rw [hp]
    exact checkConfigured_eq_none.mpr hd

end Sys2Proof.Proofs

/-!
The exceptions (60_exceptions.md R160 to R168): the order of the checks on a request, the block after a fault, and the transaction that
fails while a request runs.
-/
namespace Sys2Proof.Machine

/-! ### The checks on a request (R162) -/

/-- A submission is decided by the first check that applies. -/
theorem submit_eq (r : Request) (check : Option Cause) (us : List MicroOp) (s : State) :
    submit r check us s =
      if s.fault.isSome then (s.emit (.req r.word r.payload)).emit .fltFaulted
      else if s.busy then (s.emit (.req r.word r.payload)).raise
        { cause := .overlap, reqWord := r.word, upc := s.upc, txn := none }
      else check.elim ((s.emit (.req r.word r.payload)).accept r us) (rejected s r) := by
  by_cases hf : s.fault.isSome = true
  · rw [if_pos hf]
    exact if_pos hf
  by_cases hb : s.busy = true
  · rw [if_neg hf, if_pos hb]
    exact (if_neg hf).trans (if_pos hb)
  · have hready : Ready s := by simpa using And.intro hb hf
    rw [if_neg hf, if_neg hb]
    cases check with
    | some c => exact submit_rejected hready r c us
    | none => exact submit_accept hready r us

theorem checkReady_cause {s : State} {c : Cause} (h : checkReady s = some c) : c = .notInitialized := by
  unfold checkReady at h
  split at h <;> cases h
  rfl

theorem checkConfigured_cause {d : Device} {s : State} {c : Cause} (h : checkConfigured d s = some c) :
    c = .notConfigured := by
  unfold checkConfigured at h
  split at h <;> cases h
  rfl

theorem checkUnconfigured_cause {d : Device} {s : State} {c : Cause} (h : checkUnconfigured d s = some c) :
    c = .reconfigure := by
  unfold checkUnconfigured at h
  split at h <;> cases h
  rfl

/-- A failed precondition raises one of three causes (R100, R110, R150). -/
theorem precondition_cause {s : State} {i : Instr} {c : Cause} (h : precondition s i = some c) :
    c ∈ [Cause.reconfigure, .notConfigured, .notInitialized] := by
  cases i with
  | busWrite | busRead | portbByte => cases h
  | expConfig d => simp [checkUnconfigured_cause h]
  | lcdInit | panelReadButtons | panelWriteLights => simp [checkConfigured_cause h]
  | lcdNibble | lcdInstrNibble | lcdInstrByte | lcdChar | lcdClearHome | lcdSetLine | lcdPrint | init8bit | set4bit
  | functionSet | displayOnCursorOff | entryModeInc | clearDisplay | returnHome | setDdramAddr | writeData =>
    simp [checkReady_cause h]

/-! ### A transaction that fails (R163, R165) -/

theorem takeTurn_of_nil {s : State} (h : s.turns = []) : s.takeTurn = s := by
  have htail : s.turns.tail = s.turns := by rw [h]; rfl
  simp only [State.takeTurn, htail]

/-- A micro-op whose transaction fails ends its step with the fault it raises (R24, R163). -/
theorem sequencer_failed {s : State} {u : MicroOp} (hb : s.busy = true) (hf : s.fault = none)
    (hu : s.uops[s.upc]? = some u) (hfail : uopOk u s = false) : sequencer s = .next (perform u s) := by
  obtain ⟨-, -, -, -, hfault⟩ := perform_failed hfail
  rw [sequencer_at hb hf hu, advance_faulted hfault]

/-- The state in which micro-op `j` of request `r` is next, where `s` has taken the request from the link and accepted it as `i`, and
the transactions before that micro-op have all succeeded. -/
def atUop (s : State) (r : Request) (rest : List Byte) (i : Instr) (j : Nat) : State :=
  (accepted (s.setLink rest) r (expand s.cfg i)).afterUops ((expand s.cfg i).take j)

/-- A request on the link of a ready block, no turn being scripted, whose precondition holds, with micro-op `j` and successful answers
to the transactions before it. -/
structure Reaches (s : State) (r : Request) (rest : List Byte) (i : Instr) (j : Nat) (u : MicroOp) : Prop where
  ready : Ready s
  turns : s.turns = []
  link : takeRequest s.link = some (r, rest)
  decoded : decodeRequest r = .ok i
  allowed : precondition s i = none
  uop : (expand s.cfg i)[j]? = some u
  succeed : AllSucceed ((expand s.cfg i).take j) s

section
variable {s : State} {r : Request} {rest : List Byte} {i : Instr} {j : Nat} {u : MicroOp}

theorem atUop_upc (hu : (expand s.cfg i)[j]? = some u) : (atUop s r rest i j).upc = j := by
  obtain ⟨hlt, -⟩ := List.getElem?_eq_some_iff.mp hu
  simp [atUop, State.afterUops, accepted, Nat.le_of_lt hlt]

theorem atUop_reqWord : (atUop s r rest i j).reqWord = r.word := rfl

theorem atUop_shadow : (atUop s r rest i j).shadow = uopShadow ((expand s.cfg i).take j) s.shadow := rfl

theorem atUop_flags : (atUop s r rest i j).configuredLcd = s.configuredLcd ∧
    (atUop s r rest i j).configuredPanel = s.configuredPanel ∧ (atUop s r rest i j).lcdReady = s.lcdReady :=
  ⟨rfl, rfl, rfl⟩

theorem atUop_trace : (atUop s r rest i j).trace = s.trace ++ [.req r.word r.payload]
    ++ uopEvents ((expand s.cfg i).take j) (nextAnswers (busCount ((expand s.cfg i).take j)) s) := by
  rw [← nextAnswers_congr (s := accepted (s.setLink rest) r (expand s.cfg i)) (t := s) _ rfl rfl]
  rfl

/-- The bus's answer to micro-op `j` is the one after those to the micro-ops before it. -/
theorem atUop_nextAnswer : (nextAnswers (busCount ((expand s.cfg i).take j) + 1) s).getLast? =
    some (atUop s r rest i j).nextAnswer := by
  have hsplit := nextAnswers_add (busCount ((expand s.cfg i).take j)) 1 (s := s) (t := atUop s r rest i j) rfl rfl
  rw [hsplit]
  exact List.getLast?_concat

/-- One step submits the request, and the micro-ops before `j` take one step each. -/
theorem Reaches.run (h : Reaches s r rest i j u) : core.run (j + 1) s = .next (atUop s r rest i j) := by
  obtain ⟨⟨hb, hf⟩, hturns, hlink, hd, hp, hu, hok⟩ := h
  obtain ⟨hlt, -⟩ := List.getElem?_eq_some_iff.mp hu
  have hlen : ((expand s.cfg i).take j).length = j := List.length_take_of_le (Nat.le_of_lt hlt)
  have hrest : (expand s.cfg i).drop j ≠ [] := by simpa using hlt
  have hmover : s.mover = .host := by simp [State.mover, hturns, hb]
  have hsubmit : step s = .next (accepted (s.setLink rest) r (expand s.cfg i)) := by
    rw [step_request hmover hlink hd, hp, takeTurn_of_nil hturns]
    exact congrArg _ (submit_accepted (s := s.setLink rest) ⟨hb, hf⟩ r (List.ne_nil_of_length_pos (Nat.zero_lt_of_lt hlt)))
  have hrun := run_uops ((expand s.cfg i).take j) (s := accepted (s.setLink rest) r (expand s.cfg i)) ⟨rfl, hf, hturns⟩
    (List.take_append_drop j _).symm hrest (allSucceed_congr (s := s) _ rfl rfl hok)
  rw [hlen] at hrun
  exact (run_succ j hsubmit).trans hrun

/-- A micro-op whose transaction fails is the last of its request to be performed. -/
theorem Reaches.run_failed (h : Reaches s r rest i j u) (hfail : uopOk u (atUop s r rest i j) = false) :
    core.run (j + 2) s = .next (perform u (atUop s r rest i j)) := by
  have hat : (atUop s r rest i j).uops[(atUop s r rest i j).upc]? = some u := by
    rw [atUop_upc h.uop]
    exact h.uop
  have hrunning : Running (atUop s r rest i j) := ⟨rfl, h.ready.2, h.turns⟩
  rw [run_add (j + 1) 1 h.run]
  exact run_succ 0 (hrunning.step_eq.trans (sequencer_failed rfl h.ready.2 hat hfail))

end

end Sys2Proof.Machine

namespace Sys2Proof.Proofs

open Sys2Proof.Machine

/-- Settles O54: the request runs to micro-op `j` (`Reaches.run`), whose failed transaction ends it (`Reaches.run_failed`); what that
leaves is read off the failed write or read. -/
theorem firstFailureStopsTheRequest : Obligations.FirstFailureStopsTheRequest := by
  intro s r rest i j _ hready hturns hlink hd hp hok hlast
  rw [atUop_nextAnswer (r := r) (rest := rest)] at hlast
  have hfail : (atUop s r rest i j).nextAnswer.ok = false := Option.some.inj hlast
  have hreach {u} (hu : (expand s.cfg i)[j]? = some u) : Reaches s r rest i j u :=
    ⟨hready, hturns, hlink, hd, hp, hu, hok⟩
  refine ⟨fun d reg v hu => ?_, fun d reg hu => ?_⟩
  · refine ⟨_, (hreach hu).run_failed hfail, ?_⟩
    rw [perform_busWrite_failed hfail, atUop_upc hu, atUop_reqWord]
    exact ⟨by simp [atUop_trace], rfl, by simp [atUop_shadow], rfl, by simp [atUop_flags]⟩
  · refine ⟨_, (hreach hu).run_failed hfail, ?_⟩
    rw [perform_busRead_failed hfail, atUop_upc hu, atUop_reqWord]
    exact ⟨by simp [atUop_trace], rfl, by simp [atUop_shadow], rfl, by simp [atUop_flags]⟩

/-- Settles O27: every instruction's meaning is a submission with its precondition, and an illegal word's one with a check that always
fails; the first check that applies decides both (`submit_eq`). -/
theorem requestChecksInOrder : Obligations.RequestChecksInOrder := by
  intro s i r
  refine ⟨?_, submit_eq r _ _ s, fun c => precondition_cause⟩
  rw [exec_eq, submit_eq, apply_ite Host.Outcome.next, apply_ite Host.Outcome.next]
  cases precondition s i <;> rfl

/-- Settles O28: a faulted block refuses before it looks at anything else (`submit_faulted`). -/
theorem faultedBlockRefuses : Obligations.FaultedBlockRefuses :=
  fun s i r hf => ⟨by rw [exec_eq, submit_faulted hf], submit_faulted hf r _ _⟩

/-- Settles O46: a step of a faulted block that is no reset keeps its fault (`step_of_faulted`). -/
theorem faultIsSticky : Obligations.FaultIsSticky := by
  intro s t f hf hm hs
  have hfault : s.fault.isSome = true := by rw [hf]; rfl
  rw [step_of_faulted hfault hm hs]
  exact hf

end Sys2Proof.Proofs

/-!
Reset and the waiting block (70_reset_and_hazards.md R190, R192, R212): a flag once raised is cleared by a reset alone, and a block with
nothing to do waits.
-/
namespace Sys2Proof.Machine

/-! ### Flags that stay (R190) -/

/-- Every flag raised in `s` is raised in `t`. -/
def FlagsKept (s t : State) : Prop :=
  (∀ d, s.configured d = true → t.configured d = true) ∧ (s.lcdReady = true → t.lcdReady = true)

theorem flagsKept_of_eq {s t : State} (hl : t.configuredLcd = s.configuredLcd) (hp : t.configuredPanel = s.configuredPanel)
    (hr : t.lcdReady = s.lcdReady) : FlagsKept s t := by
  refine ⟨fun d hd => ?_, hr.trans⟩
  cases d with
  | lcd => exact hl.trans hd
  | panel => exact hp.trans hd

theorem flagsKept_of_sameBut {s t : State} (h : SameBut s t) : FlagsKept s t := by
  obtain ⟨hl, hp, hr, -⟩ := h
  exact flagsKept_of_eq hl hp hr

theorem FlagsKept.trans {s t u : State} (h : FlagsKept s t) (h' : FlagsKept t u) : FlagsKept s u := by
  obtain ⟨hconf, hready⟩ := h
  obtain ⟨hconf', hready'⟩ := h'
  exact ⟨fun d hd => hconf' d (hconf d hd), fun hr => hready' (hready hr)⟩

/-- Completing an instruction raises flags and clears none (R34). -/
theorem flagsKept_completionFlags (s : State) (i : Instr) : FlagsKept s (completionFlags s i) := by
  refine ⟨fun d hd => ?_, fun hr => by rw [completionFlags_lcdReady, hr, Bool.true_or]⟩
  cases d with
  | lcd => exact (completionFlags_configuredLcd s i).trans (Bool.or_eq_true_iff.mpr (.inl hd))
  | panel => exact (completionFlags_configuredPanel s i).trans (Bool.or_eq_true_iff.mpr (.inl hd))

theorem flagsKept_complete (s : State) (resp : Option Byte) : FlagsKept s (s.complete resp) := by
  rcases applyCompletion_cases s with h | ⟨i, h⟩ <;> rw [complete_eq, h]
  · exact flagsKept_of_eq rfl rfl rfl
  · exact flagsKept_completionFlags s i

theorem flagsKept_advance (s : State) (resp : Option Byte) : FlagsKept s (s.advance resp) := by
  rcases advance_cases s resp with ⟨-, h⟩ | ⟨-, -, h⟩ | ⟨-, -, h⟩ <;> rw [h]
  · exact flagsKept_of_eq rfl rfl rfl
  · exact flagsKept_complete { s with upc := s.upc + 1 } resp
  · exact flagsKept_of_eq rfl rfl rfl

theorem flagsKept_sequencer {s t : State} (h : sequencer s = .next t) : FlagsKept s t := by
  rcases sequencer_cases s with ⟨-, hs⟩ | ⟨u, -, -, -, hs⟩ | ⟨-, -, -, hs⟩ | ⟨-, -, -, hs⟩ <;> rw [hs] at h <;> cases h
  · exact flagsKept_of_eq rfl rfl rfl
  · obtain ⟨-, -, -, hl, hp, hr⟩ := perform_frame u s
    exact (flagsKept_of_eq hl hp hr).trans (flagsKept_advance _ _)
  · exact flagsKept_complete s none

theorem flagsKept_step {s t : State} (hm : s.mover ≠ .reset) (hs : step s = .next t) : FlagsKept s t := by
  rcases step_cases s with
    ⟨hm', -⟩ | ⟨-, h⟩ | ⟨-, -, h⟩ | ⟨r, rest, e, -, -, -, h⟩ | ⟨r, rest, i, -, -, -, h⟩
  · exact absurd hm' hm
  · exact flagsKept_sequencer (s := s.takeTurn) (h.symm.trans hs)
  · rw [h] at hs
    cases hs
    exact flagsKept_of_eq rfl rfl rfl
  · rw [h] at hs
    cases hs
    exact flagsKept_of_sameBut (s := s.takeTurn.setLink rest) (submitIllegal_sameBut r _)
  · rw [h, exec_eq] at hs
    cases hs
    exact flagsKept_of_sameBut (s := s.takeTurn.setLink rest) (submit_request_sameBut s.cfg i _ _)

/-! ### A block with nothing to do -/

theorem mover_of_final {s : State} (h : Final s) : s.mover = .host := by
  obtain ⟨hb, -, -, hturns⟩ := h
  simp [State.mover, hturns, hb]

theorem final_reset : Final State.reset := ⟨rfl, rfl, rfl, rfl⟩

end Sys2Proof.Machine

namespace Sys2Proof.Proofs

open Sys2Proof.Machine

/-- Settles O40: a step that is no reset keeps the fault record (`step_of_faulted`) and every raised flag (`flagsKept_step`); a reset
is `resetBlock` after its turn (`step_reset`), field by field R33's values. -/
theorem resetClearsTheBlock : Obligations.ResetClearsTheBlock := by
  refine ⟨fun s t hm hs => ⟨fun hf => ?_, flagsKept_step hm hs⟩, fun s hm => step_reset hm⟩
  rw [step_of_faulted hf hm hs]

/-- Settles O42: the host is to move (`mover_of_final`) and finds no whole request (`step_wait`), and there is no turn to use up. -/
theorem finalStatesWait : Obligations.FinalStatesWait := by
  refine ⟨fun s h => ?_, final_reset⟩
  have hmover := mover_of_final h
  obtain ⟨-, -, hlink, hturns⟩ := h
  rw [step_wait hmover hlink, takeTurn_of_nil hturns]

end Sys2Proof.Proofs

/-!
The nibble phase (70_reset_and_hazards.md R203 to R205, 30_encoding.md R68): what a request latches, counted, and the controller's mode
and phase after an LCD_INIT.
-/
namespace Sys2Proof.Machine

/-! ### Requests that send whole bytes (R204) -/

/-- Where the micro-ops are whole transfers, their nibbles are latched. -/
theorem latched_of_sends {cfg : Config} {us : List MicroOp} {ls : List Latch} (h : Sends cfg us ls) (hwf : cfg.wf)
    (d : FirstDraw) (as : List BusAnswer) : latched cfg d (uopEvents us as) = ls :=
  latched_of_transfers hwf d (h as)

theorem sends_clearHome (cfg : Config) : Sends cfg (clearHome cfg) ([clearByte, homeByte].flatMap (byteLatches .instr)) :=
  (((sends_instrByte cfg clearByte).append (sends_delay cfg cfg.tClearMs)).append (sends_instrByte cfg homeByte)).append
    (sends_delay cfg cfg.tHomeMs)

/-- The byte of a line's address, or nothing for a line number outside 0 to 3 (R134, R136). -/
def lineBytes (line : Byte) : List Byte := (lineAddr line).toList.map ddramByte

theorem sends_setLine (cfg : Config) (line : Byte) :
    Sends cfg (setLine cfg line) ((lineBytes line).flatMap (byteLatches .instr)) := by
  unfold setLine lineBytes
  cases lineAddr line with
  | some a => exact sends_instrByte cfg (ddramByte a)
  | none => exact sends_nil cfg

theorem length_initLatches (bs : List Byte) : (initLatches bs).length = 4 + 2 * bs.length := by
  rw [initLatches, List.length_append, length_flatMap_byteLatches]
  rfl

/-- Whole bytes, each sent as its two nibbles, latch an even number of them. -/
theorem latched_even_of_bytes {cfg : Config} {us : List MicroOp} {sel : Selector} {bs : List Byte}
    (h : Sends cfg us (bs.flatMap (byteLatches sel))) (hwf : cfg.wf) (d : FirstDraw) (as : List BusAnswer) :
    (latched cfg d (uopEvents us as)).length % 2 = 0 := by
  rw [latched_of_sends h hwf, length_flatMap_byteLatches, Nat.mul_mod_right]

/-! ### The first write to the display's port (R203) -/

/-- Of the five configuration writes of the LCD device the fifth alone is to the display's port (R7, R100). -/
theorem lcdWrites_configWrites {cfg : Config} (h : cfg.wf) (as : List BusAnswer) :
    lcdWrites cfg (uopEvents (configWrites cfg .lcd) as) = [0x00] := by
  obtain ⟨-, -, hregs⟩ := h
  simp only [List.nodup_cons, List.mem_cons, not_or] at hregs
  simp [configWrites, uopEvents, lcdWrites, hregs]

/-! ### The controller after an LCD_INIT (R205) -/

theorem any_losesLevels_uopEvents (cfg : Config) (us : List MicroOp) :
    ∀ as, (uopEvents us as).any (losesLevels cfg) = false := by
  induction us with
  | nil => exact fun _ => rfl
  | cons u us ih => cases u <;> simp [uopEvents, losesLevels, ih]

/-- Whatever came before it, an LCD_INIT puts the controller in 4-bit mode with its own nibbles counted. -/
theorem fourBitNibbles_init {cfg : Config} (hwf : cfg.wf) (d : FirstDraw) (pre : List Event) (as : List BusAnswer) :
    fourBitNibbles cfg d (pre ++ [.req 0x800000 []] ++ uopEvents (expand cfg .lcdInit) as) =
      some (4 + 2 * (initBytes cfg).length) := by
  have hsince := sinceInit_after pre (uopEvents (expand cfg .lcdInit) as) rfl (req_notMem_uopEvents _ _ _ _)
  have hlatched : latched cfg d (uopEvents (expand cfg .lcdInit) as) = initLatches (initBytes cfg) :=
    latched_of_sends (sends_initSequence cfg) hwf d as
  rw [fourBitNibbles, hsince]
  simp [any_losesLevels_uopEvents, hlatched, length_initLatches]

theorem nibblePhase_init {cfg : Config} (hwf : cfg.wf) (d : FirstDraw) (pre : List Event) (as : List BusAnswer) :
    nibblePhase cfg d (pre ++ [.req 0x800000 []] ++ uopEvents (expand cfg .lcdInit) as) = some .high := by
  have heven : (4 + 2 * (initBytes cfg).length) % 2 = 0 := by omega
  rw [nibblePhase, fourBitNibbles_init hwf, Option.map_some, if_pos heven]

end Sys2Proof.Machine

namespace Sys2Proof.Proofs

open Sys2Proof.Machine

/-- Settles O59: each of the six requests sends its nibbles in whole transfers, two for each byte beside the four of LCD_INIT
(`latched_even_of_bytes`, `length_initLatches`); EXP_CONFIG writes the display's port once (`lcdWrites_configWrites`), so what that latches
is the draw's; and an LCD_INIT leaves the phase high (`nibblePhase_init`), which is known in 4-bit mode alone. -/
theorem wholeByteRequestsKeepThePhase : Obligations.WholeByteRequestsKeepThePhase := by
  intro cfg d b text as hwf
  refine ⟨fun i hi => ?_, ?_, fun pre m => ?_⟩
  · have hbytes {us : List MicroOp} {sel : Selector} {bs : List Byte} (h : Sends cfg us (bs.flatMap (byteLatches sel))) :=
      latched_even_of_bytes h hwf d as
    simp only [List.mem_cons, List.not_mem_nil, or_false] at hi
    rcases hi with rfl | rfl | rfl | rfl | rfl | rfl
    · rw [expand, latched_of_sends (sends_initSequence cfg) hwf, length_initLatches]
      omega
    · exact hbytes (bs := [b]) (sends_instrByte cfg b)
    · exact hbytes (bs := [b]) (sends_charSend cfg b)
    · exact hbytes (sends_clearHome cfg)
    · exact hbytes (sends_setLine cfg b)
    · exact hbytes (sends_printText cfg text)
  · have hwrites : lcdWrites cfg (uopEvents (expand cfg (.expConfig .lcd)) as) = [0x00] := lcdWrites_configWrites hwf as
    rw [latched_of_writes d hwrites, latchesFrom, List.append_nil]
    by_cases hlevel : d.level &&& cfg.enMask = 0
    · rw [if_pos hlevel, if_neg fun hfalls => hfalls.2 hlevel]
    · rw [if_neg hlevel, if_pos ⟨BitVec.zero_and, hlevel⟩]
  · have hphase := nibblePhase_init hwf d pre as
    exact ⟨fourBit_of_nibblePhase m hphase, hphase⟩

end Sys2Proof.Proofs
